-- ==== Sys2Proof/Word.lean ====
section
/-! DEFINITION. The two word types of the hardware: an 8-bit datum and a 16-bit address (R6, R37). -/

namespace Sys2Proof

/-- A register, a memory byte, an operand byte (R6: data width 8 bits). -/
abbrev Byte := BitVec 8

/-- An address, the program counter, a timer counter or a shadow latch (R6: address width 16 bits). -/
abbrev Addr := BitVec 16

end Sys2Proof
end

