-- ==== Sys2Proof/Config.lean ====
section
/-! DEFINITION. What is fixed for the machine and what the spec leaves free: the fixed sizes of R6 and R7, the inputs of
the core an external device may invoke (R62), and the one free value of the model, an external device's answer.
The parameters for which the spec gives a default (base cycles, decimal arithmetic, flag-clear tables) are data of the state
(`Params` in Sys2Proof/Machine/State.lean). -/

namespace Sys2Proof

/-- The two I/O ports of a timer instance (R339). The source gives no numeric encoding (N12). -/
inductive Port where
  | a
  | b
  deriving DecidableEq, Repr

/-- The operation of `set_input_port` (R341): OR-in, AND-out, replace. -/
inductive PortOp where
  | orIn
  | andOut
  | replace
  deriving DecidableEq, Repr

/-- The inputs of the core that an external device may invoke, from inside a Bus callback or between steps, and no others
(R62): `assert_irq` (R283), `assert_nmi` (R284), `arm_delayed_nmi` (R287), `set_input_port` (R341). -/
inductive CoreInput where
  | assertIrq
  | assertNmi
  | armDelayedNmi
  | setInputPort (timer : Nat) (port : Port) (op : PortOp) (mask : BitVec 16)
  deriving DecidableEq, Repr

/-- What one callback of an external device does, as far as this block can see it (R62): the byte a read callback returns
(a write callback's is not used), and the core inputs it invokes, in order. A write that qualifies for the delayed NMI
(parameter `ArmsDelayedNmi`, R287) is one whose answer invokes `armDelayedNmi`. -/
structure DeviceAnswer where
  byte  : Byte
  calls : List CoreInput
  deriving DecidableEq, Repr, Inhabited

namespace Config

/-- `MaxDevices`, the capacity of the Bus device table (R7: "observed bound" 32). -/
def maxDevices : Nat := 32

/-- The value `arm_delayed_nmi` loads (R6, R287). -/
def delayedNmiStart : Nat := 8

/-- `NumTimers` in the reset state (R310: the save-state layout names two instances). DESIGN CHOICE, log 3. -/
def numTimers : Nat := 2

/-- The answer of an external device's callback that the state's `script` does not give: a FREE VALUE (R62, log 8). It
may depend on how many such answers came before (`tick`), the device, the address, and the byte written (`none` for a
read callback). -/
opaque deviceAnswer (tick device : Nat) (addr : Addr) (written : Option Byte) : DeviceAnswer

end Config

end Sys2Proof
end

