-- ==== Sys2Proof/Syntax.lean ====
section
/-! DEFINITION. The instructions: addressing modes and operand forms (R90, R91), branch conditions (R221 to R229), and
`Instr`, one constructor per row of spec/opcode_table.json. An operand byte is a `Byte`, a 16-bit operand an `Addr`
(R92); every value of either is legal (R98). -/

namespace Sys2Proof

/-- The addressing-mode tags of R91. -/
inductive Mode where
  | imp | acc | imm | abs | abx | aby | zp | zpx | zpy | ind | izx | izy | iax | izp | rel
  deriving DecidableEq, Repr

/-- The instruction length in bytes that a mode fixes (R90, R91). -/
def Mode.len : Mode → Nat
  | .imp | .acc => 1
  | .imm | .zp | .zpx | .zpy | .izx | .izy | .izp | .rel => 2
  | .abs | .abx | .aby | .ind | .iax => 3

/-- The memory operand of an instruction, by addressing mode (R132 to R137, R139, R140, R142). -/
inductive Operand where
  | zp (b : Byte)
  | zpx (b : Byte)
  | zpy (b : Byte)
  | abs (w : Addr)
  | abx (w : Addr)
  | aby (w : Addr)
  | izx (b : Byte)
  | izy (b : Byte)
  | izp (b : Byte)
  deriving DecidableEq, Repr

/-- Where a reading instruction takes its byte from: the immediate operand byte (R131) or memory. -/
inductive Source where
  | imm (b : Byte)
  | mem (o : Operand)
  deriving DecidableEq, Repr

/-- The target of a jump (R230, R231): the operand itself, or the word at a pointer (R132, R138, R141). -/
inductive JumpTo where
  | abs (w : Addr)
  | ind (w : Addr)
  | iax (w : Addr)
  deriving DecidableEq, Repr

/-- The condition of a branch instruction (R221 to R229). -/
inductive Cond where
  | pl | mi | vc | vs | cc | cs | ne | eq | always
  deriving DecidableEq, Repr

/-- The instructions, one constructor per row of spec/opcode_table.json. -/
inductive Instr where
  -- Load, store, transfer (41_load_store_transfer.md)
  | ldaImm (b : Byte)
  | ldaZp (b : Byte)
  | ldaZpx (b : Byte)
  | ldaAbs (w : Addr)
  | ldaAbx (w : Addr)
  | ldaAby (w : Addr)
  | ldaIzx (b : Byte)
  | ldaIzy (b : Byte)
  | ldaIzp (b : Byte)
  | ldxImm (b : Byte)
  | ldxZp (b : Byte)
  | ldxZpy (b : Byte)
  | ldxAbs (w : Addr)
  | ldxAby (w : Addr)
  | ldyImm (b : Byte)
  | ldyZp (b : Byte)
  | ldyZpx (b : Byte)
  | ldyAbs (w : Addr)
  | ldyAbx (w : Addr)
  | staZp (b : Byte)
  | staZpx (b : Byte)
  | staAbs (w : Addr)
  | staAbx (w : Addr)
  | staAby (w : Addr)
  | staIzx (b : Byte)
  | staIzy (b : Byte)
  | staIzp (b : Byte)
  | stxZp (b : Byte)
  | stxZpy (b : Byte)
  | stxAbs (w : Addr)
  | styZp (b : Byte)
  | styZpx (b : Byte)
  | styAbs (w : Addr)
  | stzZp (b : Byte)
  | stzZpx (b : Byte)
  | stzAbs (w : Addr)
  | stzAbx (w : Addr)
  | tax
  | tay
  | txa
  | tya
  | tsx
  | txs
  -- Arithmetic, compare, increment, decrement (42_arithmetic.md)
  | adcImm (b : Byte)
  | adcZp (b : Byte)
  | adcZpx (b : Byte)
  | adcAbs (w : Addr)
  | adcAbx (w : Addr)
  | adcAby (w : Addr)
  | adcIzx (b : Byte)
  | adcIzy (b : Byte)
  | adcIzp (b : Byte)
  | sbcImm (b : Byte)
  | sbcZp (b : Byte)
  | sbcZpx (b : Byte)
  | sbcAbs (w : Addr)
  | sbcAbx (w : Addr)
  | sbcAby (w : Addr)
  | sbcIzx (b : Byte)
  | sbcIzy (b : Byte)
  | sbcIzp (b : Byte)
  | cmpImm (b : Byte)
  | cmpZp (b : Byte)
  | cmpZpx (b : Byte)
  | cmpAbs (w : Addr)
  | cmpAbx (w : Addr)
  | cmpAby (w : Addr)
  | cmpIzx (b : Byte)
  | cmpIzy (b : Byte)
  | cmpIzp (b : Byte)
  | cpxImm (b : Byte)
  | cpxZp (b : Byte)
  | cpxAbs (w : Addr)
  | cpyImm (b : Byte)
  | cpyZp (b : Byte)
  | cpyAbs (w : Addr)
  | incAcc
  | incZp (b : Byte)
  | incZpx (b : Byte)
  | incAbs (w : Addr)
  | incAbx (w : Addr)
  | decAcc
  | decZp (b : Byte)
  | decZpx (b : Byte)
  | decAbs (w : Addr)
  | decAbx (w : Addr)
  | inx
  | iny
  | dex
  | dey
  -- Logic, bit test, shift, rotate (43_logic_shift_bit.md)
  | andImm (b : Byte)
  | andZp (b : Byte)
  | andZpx (b : Byte)
  | andAbs (w : Addr)
  | andAbx (w : Addr)
  | andAby (w : Addr)
  | andIzx (b : Byte)
  | andIzy (b : Byte)
  | andIzp (b : Byte)
  | oraImm (b : Byte)
  | oraZp (b : Byte)
  | oraZpx (b : Byte)
  | oraAbs (w : Addr)
  | oraAbx (w : Addr)
  | oraAby (w : Addr)
  | oraIzx (b : Byte)
  | oraIzy (b : Byte)
  | oraIzp (b : Byte)
  | eorImm (b : Byte)
  | eorZp (b : Byte)
  | eorZpx (b : Byte)
  | eorAbs (w : Addr)
  | eorAbx (w : Addr)
  | eorAby (w : Addr)
  | eorIzx (b : Byte)
  | eorIzy (b : Byte)
  | eorIzp (b : Byte)
  | bitZp (b : Byte)
  | bitAbs (w : Addr)
  | trbZp (b : Byte)
  | trbAbs (w : Addr)
  | tsbZp (b : Byte)
  | tsbAbs (w : Addr)
  | aslAcc
  | aslZp (b : Byte)
  | aslZpx (b : Byte)
  | aslAbs (w : Addr)
  | aslAbx (w : Addr)
  | lsrAcc
  | lsrZp (b : Byte)
  | lsrZpx (b : Byte)
  | lsrAbs (w : Addr)
  | lsrAbx (w : Addr)
  | rolAcc
  | rolZp (b : Byte)
  | rolZpx (b : Byte)
  | rolAbs (w : Addr)
  | rolAbx (w : Addr)
  | rorAcc
  | rorZp (b : Byte)
  | rorZpx (b : Byte)
  | rorAbs (w : Addr)
  | rorAbx (w : Addr)
  -- Branches, jumps, subroutines (44_control_flow.md)
  | bpl (d : Byte)
  | bmi (d : Byte)
  | bvc (d : Byte)
  | bvs (d : Byte)
  | bcc (d : Byte)
  | bcs (d : Byte)
  | bne (d : Byte)
  | beq (d : Byte)
  | bra (d : Byte)
  | jmpAbs (w : Addr)
  | jmpInd (w : Addr)
  | jmpIax (w : Addr)
  | jsr (w : Addr)
  | rts
  -- Stack, flags, system (45_stack_flag_system.md)
  | pha
  | pla
  | phx
  | plx
  | phy
  | ply
  | php
  | plp
  | clc
  | sec
  | cli
  | sei
  | cld
  | sed
  | clv
  | nop
  | brk
  | rti
  -- Undefined opcode slots (30_encoding.md R97, 45_stack_flag_system.md R261)
  | undef02
  | undef03
  | undef07
  | undef0B
  | undef0F
  | undef13
  | undef17
  | undef1B
  | undef1F
  | undef22
  | undef23
  | undef27
  | undef2B
  | undef2F
  | undef33
  | undef34
  | undef37
  | undef3B
  | undef3C
  | undef3F
  | undef42
  | undef43
  | undef44
  | undef47
  | undef4B
  | undef4F
  | undef53
  | undef54
  | undef57
  | undef5B
  | undef5C
  | undef5F
  | undef62
  | undef63
  | undef67
  | undef6B
  | undef6F
  | undef73
  | undef77
  | undef7B
  | undef7F
  | undef82
  | undef83
  | undef87
  | undef89
  | undef8B
  | undef8F
  | undef93
  | undef97
  | undef9B
  | undef9F
  | undefA3
  | undefA7
  | undefAB
  | undefAF
  | undefB3
  | undefB7
  | undefBB
  | undefBF
  | undefC2
  | undefC3
  | undefC7
  | undefCB
  | undefCF
  | undefD3
  | undefD4
  | undefD7
  | undefDB
  | undefDC
  | undefDF
  | undefE2
  | undefE3
  | undefE7
  | undefEB
  | undefEF
  | undefF3
  | undefF4
  | undefF7
  | undefFB
  | undefFC
  | undefFF
  deriving DecidableEq, Repr

end Sys2Proof
end

