-- ==== Sys2Proof/Machine/State.lean ====
section
/-! DEFINITION. The state of the machine as plain data: the CPU (R20 to R31), the Bus (R51 to R53), the timer instances (R313 to R315), and
the parameters of R8, and the environment as data (R9, R62). Reset values: R39, R318, and the log entries named below. -/

namespace Sys2Proof.Machine

/-- The shared memory `Mem` (R51) as a list of listed bytes; an address not listed reads as `unlistedByte`
(Machine/Memory.lean). Canonical form: `Memory.wf`. -/
abbrev Memory := List Host.Cell

/-- Who answers a region's callback: a timer instance (R312) or an external device (R62), by number. -/
inductive Client where
  | timer (i : Nat)
  | external (device : Nat)
  deriving DecidableEq, Repr

/-- One entry of the Bus device table (R53): inclusive first and last address, optional read callback, optional write callback,
and whether the region backs onto shared memory. -/
structure Region where
  first  : Addr
  last   : Addr
  reader : Option Client
  writer : Option Client
  backs  : Bool
  deriving DecidableEq, Repr

/-- One timer instance (R313, R315): sixteen 8-bit registers under the names of R313, two input and two output shadow latches, and
`TimerBase` once `initialise` has given it (R312, R319). -/
structure Timer where
  /-- `TimerBase[i]`; `none` before `initialise` (log 3). -/
  base  : Option Addr
  /-- reg 0, output-register-B. -/
  orb   : Byte
  /-- reg 1, output-register-A. -/
  ora   : Byte
  /-- reg 2, data-direction-B. -/
  ddrb  : Byte
  /-- reg 3, data-direction-A. -/
  ddra  : Byte
  /-- reg 4, timer-1-counter-low. -/
  t1cl  : Byte
  /-- reg 5, timer-1-counter-high. -/
  t1ch  : Byte
  /-- reg 6, timer-1-latch-low. -/
  t1ll  : Byte
  /-- reg 7, timer-1-latch-high. -/
  t1lh  : Byte
  /-- reg 8, timer-2-counter-low. -/
  t2cl  : Byte
  /-- reg 9, timer-2-counter-high. -/
  t2ch  : Byte
  /-- reg 10, shift-register: storage only (R316). -/
  sr    : Byte
  /-- reg 11, auxiliary-control (R317). -/
  acr   : Byte
  /-- reg 12, peripheral-control: storage only (R316). -/
  pcr   : Byte
  /-- reg 13, interrupt-flag (R322). -/
  ifr   : Byte
  /-- reg 14, interrupt-enable (R323). -/
  ier   : Byte
  /-- reg 15, output-register-A-no-handshake. -/
  oraNh : Byte
  inLatchA  : BitVec 16
  inLatchB  : BitVec 16
  outLatchA : BitVec 16
  outLatchB : BitVec 16
  deriving DecidableEq, Repr

/-- A timer instance after `reset` or `initialise` (R318): all registers and latches zero; its base address is kept. -/
def Timer.fresh (base : Option Addr) : Timer :=
  { base := base
    orb := 0, ora := 0, ddrb := 0, ddra := 0, t1cl := 0, t1ch := 0, t1ll := 0, t1lh := 0
    t2cl := 0, t2ch := 0, sr := 0, acr := 0, pcr := 0, ifr := 0, ier := 0, oraNh := 0
    inLatchA := 0, inLatchB := 0, outLatchA := 0, outLatchB := 0 }

/-- The sixteen registers of a timer instance, by the names of R313. -/
inductive TimerReg where
  | orb | ora | ddrb | ddra | t1cl | t1ch | t1ll | t1lh | t2cl | t2ch | sr | acr | pcr | ifr | ier | oraNh
  deriving DecidableEq, Repr

/-- The parameters of R8 that are functions, as plain data: each list holds the arguments at which this machine's function differs from the
spec's default, with the value there (the first entry counts; the functions are in Machine/Params.lean). Every function of these types can
be written so (`exists_params`). A machine's parameters are fixed: no step writes them. -/
structure Params where
  /-- `base_cycles[op]` (R126), by opcode byte. -/
  baseCycles  : List (Byte × Nat)
  /-- `dec_adc(a, m, c)` (R183): result and carry, by operands and carry. -/
  decAdc      : List ((Byte × Byte × Bool) × (Byte × Bool))
  /-- `dec_sbc(a, m, c)` (R186): result and carry, by operands and carry. -/
  decSbc      : List ((Byte × Byte × Bool) × (Byte × Bool))
  /-- `ReadClears[reg]` (R331), by register. -/
  readClears  : List (TimerReg × Byte)
  /-- `WriteClears[reg]` (R331), by register. -/
  writeClears : List (TimerReg × Byte)
  deriving DecidableEq, Repr

/-- The spec's default for every parameter (R126, R183, R186, R331). -/
def Params.standard : Params :=
  { baseCycles := [], decAdc := [], decSbc := [], readClears := [], writeClears := [] }

/-- What the host may do between two steps (R4, R9, R380), beside calling `execute`. Arguments the spec gives no effect (`bank`,
`param`, `identifier`, the vector arguments of `reset`; N14, C4) are left out. -/
inductive HostOp where
  /-- CPU `reset` (R360). -/
  | reset
  /-- CPU `continue` (R297). -/
  | resume (pc : Addr) (a x y sp psw : Byte)
  /-- `assert_irq`, `assert_nmi`, `arm_delayed_nmi` or `set_input_port`, from the host or an external device between
  steps (R62). -/
  | input (c : CoreInput)
  /-- Bus `register` of an external device's region (R56). -/
  | register (r : Region)
  /-- Bus `mark_read_only` (R60). -/
  | markReadOnly (first last : Addr)
  /-- Direct stores to `Mem` from an address upward (R61). -/
  | loadImage (start : Addr) (bytes : List Byte)
  /-- Timer `initialise` of instance `i` at a base address (R319). -/
  | timerInitialise (i : Nat) (address : Addr)
  /-- Timer `reset` of the instance at a base address (R318). -/
  | timerReset (address : Addr)
  /-- Timer `reload` (R347). -/
  | timerReload
  deriving DecidableEq, Repr

/-- One turn of the machine: the CPU executes an instruction, or the host performs an operation (R9: the host is "a second actor
only between steps"). -/
inductive Turn where
  | instruction
  | host (op : HostOp)
  deriving DecidableEq, Repr

/-- The state of the machine. -/
structure State where
  /-- Accumulator A (R20). -/
  a : Byte
  /-- Index register X (R20). -/
  x : Byte
  /-- Index register Y (R20). -/
  y : Byte
  /-- Stack pointer S (R22). -/
  sp : Byte
  /-- Processor status word P (R23). -/
  p : Byte
  /-- Program counter PC (R21). -/
  pc : Addr
  /-- `irq_pending` (R30). -/
  irqPending : Bool
  /-- `nmi_pending` (R30). -/
  nmiPending : Bool
  /-- `nmi_delay`, the delayed-NMI countdown in instruction bytes; 0 is inactive (R31). -/
  nmiDelay : Nat
  /-- Shared memory `Mem` (R51). -/
  mem : Memory
  /-- The read-only bitmap `ReadOnly` (R52): bit `n` is the mark of address `n`. -/
  readOnly : Nat
  /-- The device table `Regions`, in registration order (R53). -/
  regions : List Region
  /-- The timer instances, in ascending index order (R310). -/
  timers : List Timer
  /-- The MODEL's own: the answers of the external devices' next callbacks, in callback order (R62, log 8). -/
  script : List DeviceAnswer
  /-- The MODEL's own: how many callbacks `Config.deviceAnswer` has answered (log 8). -/
  answered : Nat
  /-- The MODEL's own: the turns to come before the CPU runs on by itself (R9, log 9). -/
  agenda : List Turn
  /-- The parameters of R8 this machine was built with (log 5, log 6, log 7). -/
  params : Params
  deriving DecidableEq, Repr

/-- The machine right after CPU reset (R39) of a Bus just created (R365 step 1) with nothing loaded and nothing registered. The reset
vector read from memory with nothing listed is 0x0000 (log 1, log 11). A, X, Y: log 2. Timers: R318, log 3. Regions: log 4.
Parameters: log 5, log 6, log 7. -/
def State.reset : State :=
  { a := 0x00, x := 0x00, y := 0x00
    sp := 0xFF
    p := 0x20
    pc := 0x0000
    irqPending := false
    nmiPending := false
    nmiDelay := 0
    mem := []
    readOnly := 0
    regions := []
    timers := List.replicate Config.numTimers (Timer.fresh none)
    script := []
    answered := 0
    agenda := []
    params := Params.standard }

/-- Why the machine stops with a fault: never. The hardware raises no synchronous fault (R270), and there is no state from which a
step is undefined, faults or hangs (R120). The type has no constructor: no definition of the model can fault. -/
inductive Fault where
  deriving DecidableEq, Repr

/-- Why the model gives an instruction no meaning. -/
inductive Refusal where
  /-- The instruction is not modelled yet. Raised by an arm of `exec` only; safe (the machine stops where the hardware goes on). No
  arm raises it now. -/
  | notModelled (mnemonic : String)
  deriving DecidableEq, Repr

end Sys2Proof.Machine
end

