-- ==== Sys2Proof/Machine/Params.lean ====
section
/-! DEFINITION. The parameters of R8 for which the spec gives a default: base cycles (R126), decimal arithmetic (R183, R186) and the
timer's flag-clear tables (R331). Each function takes the machine's parameters and is the spec's default except where they list another
value (log 5, log 6, log 7). -/

namespace Sys2Proof.Machine

/-- A parameter at an argument: the value listed first for it, or the default. -/
def listedOr {α β : Type} [DecidableEq α] (l : List (α × β)) (k : α) (default : β) : β :=
  match l with
  | [] => default
  | (j, v) :: rest => if j = k then v else listedOr rest k default

/-- Rows 0x to 7x of the default `base_cycles` table (R126). -/
def baseCyclesLow : List (List Nat) :=
  [[7, 6, 7, 7, 5, 3, 5, 7, 3, 2, 2, 7, 6, 4, 6, 7]]
  ++ [[2, 5, 5, 7, 5, 4, 6, 7, 2, 4, 2, 7, 6, 4, 7, 7]]
  ++ [[6, 6, 7, 7, 3, 3, 5, 7, 4, 2, 2, 7, 4, 4, 6, 7]]
  ++ [[2, 5, 5, 7, 7, 4, 6, 7, 2, 4, 2, 7, 7, 4, 7, 7]]
  ++ [[6, 6, 7, 7, 7, 3, 5, 7, 3, 2, 2, 7, 3, 4, 6, 7]]
  ++ [[2, 5, 5, 7, 7, 4, 6, 7, 2, 4, 3, 7, 7, 4, 7, 7]]
  ++ [[6, 6, 7, 7, 3, 3, 5, 7, 4, 2, 2, 7, 5, 4, 6, 7]]
  ++ [[2, 5, 5, 7, 4, 4, 6, 7, 2, 4, 4, 7, 6, 4, 7, 7]]

/-- Rows 8x to Fx of the default `base_cycles` table (R126). -/
def baseCyclesHigh : List (List Nat) :=
  [[2, 6, 7, 7, 3, 3, 3, 7, 2, 7, 2, 7, 4, 4, 4, 7]]
  ++ [[2, 6, 5, 7, 4, 4, 4, 7, 2, 5, 2, 7, 4, 5, 5, 7]]
  ++ [[2, 6, 2, 7, 3, 3, 3, 7, 2, 2, 2, 7, 4, 4, 4, 7]]
  ++ [[2, 5, 5, 7, 4, 4, 4, 7, 2, 4, 2, 7, 4, 4, 4, 7]]
  ++ [[2, 6, 7, 7, 3, 3, 5, 7, 2, 2, 2, 7, 4, 4, 6, 7]]
  ++ [[2, 5, 5, 7, 7, 4, 6, 7, 2, 4, 3, 7, 7, 4, 7, 7]]
  ++ [[2, 6, 7, 7, 3, 3, 5, 7, 2, 2, 2, 7, 4, 4, 6, 7]]
  ++ [[2, 5, 5, 7, 7, 4, 6, 7, 2, 4, 4, 7, 7, 4, 7, 7]]

/-- The default `base_cycles[op]` (R126, decision D4). Both indexes are in range for every byte. -/
def defaultBaseCycles (op : Byte) : Nat :=
  ((baseCyclesLow ++ baseCyclesHigh).getD (op.toNat / 16) []).getD (op.toNat % 16) 7

/-- The default `dec_adc(a, m, c)`, decimal-mode addition: result and carry (R183, decision D19). -/
def defaultDecAdc (a m : Byte) (c : Bool) : Byte × Bool :=
  let low := a.toNat % 16 + m.toNat % 16 + c.toNat
  let low := if low ≥ 10 then (low + 6) % 16 + 16 else low
  let t := a.toNat / 16 * 16 + m.toNat / 16 * 16 + low
  let t := if t ≥ 0xA0 then t + 0x60 else t
  (BitVec.ofNat 8 t, decide (t ≥ 0x100))

/-- The default `dec_sbc(a, m, c)`, decimal-mode subtraction: result and carry, the carry being the binary one (R186, decision
D19). -/
def defaultDecSbc (a m : Byte) (c : Bool) : Byte × Bool :=
  let low : Int := (a.toNat % 16 : Nat) - (m.toNat % 16 : Nat) + (c.toNat : Int) - 1
  let low : Int := if low < 0 then (low - 6) % 16 - 16 else low
  let t : Int := (a.toNat / 16 * 16 : Nat) - (m.toNat / 16 * 16 : Nat) + low
  let t : Int := if t < 0 then t - 0x60 else t
  (BitVec.ofInt 8 t, decide (a.toNat + (m ^^^ 0xFF).toNat + c.toNat > 0xFF))

/-- The default `ReadClears[r]`: the interrupt flags a read of register `r` clears (R331, decision D28). -/
def defaultReadClears : TimerReg → Byte
  | .orb => 0x18
  | .ora => 0x03
  | .ddrb => 0x00
  | .ddra => 0x00
  | .t1cl => 0x40
  | .t1ch => 0x00
  | .t1ll => 0x00
  | .t1lh => 0x00
  | .t2cl => 0x20
  | .t2ch => 0x00
  | .sr => 0x04
  | .acr => 0x00
  | .pcr => 0x00
  | .ifr => 0x00
  | .ier => 0x00
  | .oraNh => 0x00

/-- The default `WriteClears[r]`: the interrupt flags a write of register `r` clears (R331, decision D28). -/
def defaultWriteClears : TimerReg → Byte
  | .orb => 0x18
  | .ora => 0x03
  | .ddrb => 0x00
  | .ddra => 0x00
  | .t1cl => 0x00
  | .t1ch => 0x40
  | .t1ll => 0x00
  | .t1lh => 0x00
  | .t2cl => 0x00
  | .t2ch => 0x20
  | .sr => 0x04
  | .acr => 0x00
  | .pcr => 0x00
  | .ifr => 0x00
  | .ier => 0x00
  | .oraNh => 0x00

/-- `base_cycles[op]` of the machine (R126; log 5). -/
def baseCycles (q : Params) (op : Byte) : Nat := listedOr q.baseCycles op (defaultBaseCycles op)

/-- A `DecimalALU` function (R183, R186): result and carry from two operands and a carry. -/
abbrev DecimalFn := Byte → Byte → Bool → Byte × Bool

/-- `dec_adc` of the machine (R183; log 6). -/
def decAdc (q : Params) : DecimalFn := fun a m c => listedOr q.decAdc (a, m, c) (defaultDecAdc a m c)

/-- `dec_sbc` of the machine (R186; log 6). -/
def decSbc (q : Params) : DecimalFn := fun a m c => listedOr q.decSbc (a, m, c) (defaultDecSbc a m c)

/-- `ReadClears[r]` of the machine (R331; log 7). -/
def readClears (q : Params) (r : TimerReg) : Byte := listedOr q.readClears r (defaultReadClears r)

/-- `WriteClears[r]` of the machine (R331; log 7). -/
def writeClears (q : Params) (r : TimerReg) : Byte := listedOr q.writeClears r (defaultWriteClears r)

end Sys2Proof.Machine
end

