-- ==== Sys2Proof/Machine/Registers.lean ====
section
/-! DEFINITION. One write operation per field of State; every other definition writes State through these. Reading a register is
the field itself: none is hard-wired, banked or aliased (R20). -/

namespace Sys2Proof.Machine

/-- Writes accumulator A (R20). -/
def State.setA (v : Byte) (s : State) : State := { s with a := v }

/-- Writes index register X (R20). -/
def State.setX (v : Byte) (s : State) : State := { s with x := v }

/-- Writes index register Y (R20). -/
def State.setY (v : Byte) (s : State) : State := { s with y := v }

/-- Writes stack pointer S (R22). -/
def State.setSp (v : Byte) (s : State) : State := { s with sp := v }

/-- Writes status word P (R23). -/
def State.setP (v : Byte) (s : State) : State := { s with p := v }

/-- Writes program counter PC (R21). -/
def State.setPc (v : Addr) (s : State) : State := { s with pc := v }

/-- Writes `irq_pending` (R30). -/
def State.setIrqPending (v : Bool) (s : State) : State := { s with irqPending := v }

/-- Writes `nmi_pending` (R30). -/
def State.setNmiPending (v : Bool) (s : State) : State := { s with nmiPending := v }

/-- Writes `nmi_delay` (R31). -/
def State.setNmiDelay (v : Nat) (s : State) : State := { s with nmiDelay := v }

/-- Writes `Mem` (R51). -/
def State.setMem (v : Memory) (s : State) : State := { s with mem := v }

/-- Writes the read-only bitmap (R52). -/
def State.setReadOnly (v : Nat) (s : State) : State := { s with readOnly := v }

/-- Writes the device table (R53). -/
def State.setRegions (v : List Region) (s : State) : State := { s with regions := v }

/-- Writes the timer instances (R310). -/
def State.setTimers (v : List Timer) (s : State) : State := { s with timers := v }

/-- Writes the answers to come of external devices (log 8). -/
def State.setScript (v : List DeviceAnswer) (s : State) : State := { s with script := v }

/-- Writes the count of free answers (log 8). -/
def State.setAnswered (v : Nat) (s : State) : State := { s with answered := v }

/-- Writes the turns to come (log 9). -/
def State.setAgenda (v : List Turn) (s : State) : State := { s with agenda := v }

end Sys2Proof.Machine
end

