-- ==== Sys2Proof/Machine/Memory.lean ====
section
/-! DEFINITION. The shared memory `Mem` (R51) and the read-only bitmap (R52): reading and writing one byte, the canonical form, and
marking a range read-only. -/

namespace Sys2Proof.Machine

/-- What an address not listed reads as: InitialMemory where the host loaded nothing (R51, D38: free in the spec). DESIGN CHOICE 0x00,
unsafe (log 1). -/
def unlistedByte : Byte := 0x00

/-- The byte at an address (given as a number below 65536). -/
def Memory.read : Memory → Nat → Byte
  | [], _ => unlistedByte
  | (k, b) :: rest, n => if k = n then b else Memory.read rest n

/-- Puts a cell before the first cell of a higher address. -/
def Memory.insert (n : Nat) (v : Byte) : Memory → Memory
  | [] => [(n, v)]
  | (k, b) :: rest => if k < n then (k, b) :: Memory.insert n v rest else (n, v) :: (k, b) :: rest

/-- Stores one byte: the address's cell is taken out and, unless the value is what an unlisted address reads as, put back with the
new value in its place by address. -/
def Memory.write (m : Memory) (n : Nat) (v : Byte) : Memory :=
  let others := m.filter (fun c => c.1 ≠ n)
  if v = unlistedByte then others else Memory.insert n v others

/-- The canonical form: addresses strictly rising and inside the address space (R37), no cell equal to what an unlisted address
reads as. -/
abbrev Memory.wf (m : Memory) : Prop :=
  m.Pairwise (fun c d => c.1 < d.1) ∧ ∀ c ∈ m, c.1 < 65536 ∧ c.2 ≠ unlistedByte

/-- `Mem[addr]`. -/
def State.memByte (addr : Addr) (s : State) : Byte := s.mem.read addr.toNat

/-- `Mem[addr] <- v`, ungated. -/
def State.memStore (addr : Addr) (v : Byte) (s : State) : State := s.setMem (s.mem.write addr.toNat v)

/-- `ReadOnly[addr] == 1` (R52). -/
def State.isReadOnly (addr : Addr) (s : State) : Bool := s.readOnly.testBit addr.toNat

/-- The bitmap with exactly the bits `first .. last` set; no bit if `first > last`. -/
def rangeBits (first last : Addr) : Nat :=
  ((1 <<< (last.toNat + 1 - first.toNat)) - 1) <<< first.toNat

/-- `mark_read_only(first, last)` (R60): marks are only ever added; both ends inclusive. -/
def markReadOnly (first last : Addr) (s : State) : State :=
  s.setReadOnly (s.readOnly ||| rangeBits first last)

/-- Direct stores to `Mem` from an address upward, bypassing the Bus: no callback runs and `ReadOnly` is not consulted (R61). An image
that passes 0xFFFF goes on at 0x0000 (log 24). -/
def loadImage (start : Addr) : List Byte → State → State
  | [], s => s
  | b :: rest, s => loadImage (start + 1) rest (s.memStore start b)

end Sys2Proof.Machine
end

