-- ==== Sys2Proof/WellFormed.lean ====
section
/-! DEFINITION. Well-formedness. R98: every opcode byte has a meaning and "every value of `b1`, `lo`, `hi` is legal for every
mode", so no term of `Instr` is ill formed: the operand types admit exactly the legal operands, and the mode is part of
the constructor. What can be ill formed is a byte string for a mode: it must have exactly the mode's length (R90, R91). -/

namespace Sys2Proof

/-- Every instruction is well formed (R98: operand bytes are unconstrained, and there is no illegal or reserved encoding). -/
def WellFormed (_ : Instr) : Bool := true

/-- A byte string encodes one instruction of mode `m` only if it has the length the mode fixes (R90, R91). -/
def WellFormedBytes (m : Mode) (bytes : List Byte) : Bool := bytes.length == m.len

end Sys2Proof
end

