-- ==== Sys2Proof/Decode.lean ====
section
/-! DEFINITION. The decoder (R90 to R98), total on any bytes, and after it the encoder. The opcode byte is an index into the
256-entry matrix of R96; an undefined slot (R97) decodes to its own constructor, which runs BRK (R261). The only byte
strings refused are those that end before the instruction does. The opcode bytes are the spec's own assignment (decision D2). -/

namespace Sys2Proof

/-- A 16-bit value from its two bytes (R63, R92: the low byte stands at the lower address). -/
def addrOf (lo hi : Byte) : Addr := hi ++ lo

/-- The low byte of a 16-bit value. -/
def lowByte (w : Addr) : Byte := w.extractLsb' 0 8

/-- The high byte of a 16-bit value. -/
def highByte (w : Addr) : Byte := w.extractLsb' 8 8

/-- What one opcode byte announces: a complete instruction, or one that still needs one or two operand bytes (formats F1, F2,
F3 of R90). -/
inductive OpcodeEntry where
  | one (i : Instr)
  | two (f : Byte → Instr)
  | three (f : Addr → Instr)

/-- The bytes an entry's instruction takes (R90). -/
def OpcodeEntry.len : OpcodeEntry → Nat
  | .one _ => 1
  | .two _ => 2
  | .three _ => 3

/-- Row 0x0x of the opcode matrix (R96). -/
def opcodeRow0 : List OpcodeEntry :=
  [.one .brk, .two .oraIzx, .one .undef02, .one .undef03,
   .two .tsbZp, .two .oraZp, .two .aslZp, .one .undef07,
   .one .php, .two .oraImm, .one .aslAcc, .one .undef0B,
   .three .tsbAbs, .three .oraAbs, .three .aslAbs, .one .undef0F]

/-- Row 0x1x of the opcode matrix (R96). -/
def opcodeRow1 : List OpcodeEntry :=
  [.two .bpl, .two .oraIzy, .two .oraIzp, .one .undef13,
   .two .trbZp, .two .oraZpx, .two .aslZpx, .one .undef17,
   .one .clc, .three .oraAby, .one .incAcc, .one .undef1B,
   .three .trbAbs, .three .oraAbx, .three .aslAbx, .one .undef1F]

/-- Row 0x2x of the opcode matrix (R96). -/
def opcodeRow2 : List OpcodeEntry :=
  [.three .jsr, .two .andIzx, .one .undef22, .one .undef23,
   .two .bitZp, .two .andZp, .two .rolZp, .one .undef27,
   .one .plp, .two .andImm, .one .rolAcc, .one .undef2B,
   .three .bitAbs, .three .andAbs, .three .rolAbs, .one .undef2F]

/-- Row 0x3x of the opcode matrix (R96). -/
def opcodeRow3 : List OpcodeEntry :=
  [.two .bmi, .two .andIzy, .two .andIzp, .one .undef33,
   .one .undef34, .two .andZpx, .two .rolZpx, .one .undef37,
   .one .sec, .three .andAby, .one .decAcc, .one .undef3B,
   .one .undef3C, .three .andAbx, .three .rolAbx, .one .undef3F]

/-- Row 0x4x of the opcode matrix (R96). -/
def opcodeRow4 : List OpcodeEntry :=
  [.one .rti, .two .eorIzx, .one .undef42, .one .undef43,
   .one .undef44, .two .eorZp, .two .lsrZp, .one .undef47,
   .one .pha, .two .eorImm, .one .lsrAcc, .one .undef4B,
   .three .jmpAbs, .three .eorAbs, .three .lsrAbs, .one .undef4F]

/-- Row 0x5x of the opcode matrix (R96). -/
def opcodeRow5 : List OpcodeEntry :=
  [.two .bvc, .two .eorIzy, .two .eorIzp, .one .undef53,
   .one .undef54, .two .eorZpx, .two .lsrZpx, .one .undef57,
   .one .cli, .three .eorAby, .one .phy, .one .undef5B,
   .one .undef5C, .three .eorAbx, .three .lsrAbx, .one .undef5F]

/-- Row 0x6x of the opcode matrix (R96). -/
def opcodeRow6 : List OpcodeEntry :=
  [.one .rts, .two .adcIzx, .one .undef62, .one .undef63,
   .two .stzZp, .two .adcZp, .two .rorZp, .one .undef67,
   .one .pla, .two .adcImm, .one .rorAcc, .one .undef6B,
   .three .jmpInd, .three .adcAbs, .three .rorAbs, .one .undef6F]

/-- Row 0x7x of the opcode matrix (R96). -/
def opcodeRow7 : List OpcodeEntry :=
  [.two .bvs, .two .adcIzy, .two .adcIzp, .one .undef73,
   .two .stzZpx, .two .adcZpx, .two .rorZpx, .one .undef77,
   .one .sei, .three .adcAby, .one .ply, .one .undef7B,
   .three .jmpIax, .three .adcAbx, .three .rorAbx, .one .undef7F]

/-- Row 0x8x of the opcode matrix (R96). -/
def opcodeRow8 : List OpcodeEntry :=
  [.two .bra, .two .staIzx, .one .undef82, .one .undef83,
   .two .styZp, .two .staZp, .two .stxZp, .one .undef87,
   .one .dey, .one .undef89, .one .txa, .one .undef8B,
   .three .styAbs, .three .staAbs, .three .stxAbs, .one .undef8F]

/-- Row 0x9x of the opcode matrix (R96). -/
def opcodeRow9 : List OpcodeEntry :=
  [.two .bcc, .two .staIzy, .two .staIzp, .one .undef93,
   .two .styZpx, .two .staZpx, .two .stxZpy, .one .undef97,
   .one .tya, .three .staAby, .one .txs, .one .undef9B,
   .three .stzAbs, .three .staAbx, .three .stzAbx, .one .undef9F]

/-- Row 0xAx of the opcode matrix (R96). -/
def opcodeRowA : List OpcodeEntry :=
  [.two .ldyImm, .two .ldaIzx, .two .ldxImm, .one .undefA3,
   .two .ldyZp, .two .ldaZp, .two .ldxZp, .one .undefA7,
   .one .tay, .two .ldaImm, .one .tax, .one .undefAB,
   .three .ldyAbs, .three .ldaAbs, .three .ldxAbs, .one .undefAF]

/-- Row 0xBx of the opcode matrix (R96). -/
def opcodeRowB : List OpcodeEntry :=
  [.two .bcs, .two .ldaIzy, .two .ldaIzp, .one .undefB3,
   .two .ldyZpx, .two .ldaZpx, .two .ldxZpy, .one .undefB7,
   .one .clv, .three .ldaAby, .one .tsx, .one .undefBB,
   .three .ldyAbx, .three .ldaAbx, .three .ldxAby, .one .undefBF]

/-- Row 0xCx of the opcode matrix (R96). -/
def opcodeRowC : List OpcodeEntry :=
  [.two .cpyImm, .two .cmpIzx, .one .undefC2, .one .undefC3,
   .two .cpyZp, .two .cmpZp, .two .decZp, .one .undefC7,
   .one .iny, .two .cmpImm, .one .dex, .one .undefCB,
   .three .cpyAbs, .three .cmpAbs, .three .decAbs, .one .undefCF]

/-- Row 0xDx of the opcode matrix (R96). -/
def opcodeRowD : List OpcodeEntry :=
  [.two .bne, .two .cmpIzy, .two .cmpIzp, .one .undefD3,
   .one .undefD4, .two .cmpZpx, .two .decZpx, .one .undefD7,
   .one .cld, .three .cmpAby, .one .phx, .one .undefDB,
   .one .undefDC, .three .cmpAbx, .three .decAbx, .one .undefDF]

/-- Row 0xEx of the opcode matrix (R96). -/
def opcodeRowE : List OpcodeEntry :=
  [.two .cpxImm, .two .sbcIzx, .one .undefE2, .one .undefE3,
   .two .cpxZp, .two .sbcZp, .two .incZp, .one .undefE7,
   .one .inx, .two .sbcImm, .one .nop, .one .undefEB,
   .three .cpxAbs, .three .sbcAbs, .three .incAbs, .one .undefEF]

/-- Row 0xFx of the opcode matrix (R96). -/
def opcodeRowF : List OpcodeEntry :=
  [.two .beq, .two .sbcIzy, .two .sbcIzp, .one .undefF3,
   .one .undefF4, .two .sbcZpx, .two .incZpx, .one .undefF7,
   .one .sed, .three .sbcAby, .one .plx, .one .undefFB,
   .one .undefFC, .three .sbcAbx, .three .incAbx, .one .undefFF]

/-- The rows of the opcode matrix, by the high nibble of the opcode (R96). -/
def opcodeMatrix : List (List OpcodeEntry) :=
  [opcodeRow0, opcodeRow1, opcodeRow2, opcodeRow3]
  ++ [opcodeRow4, opcodeRow5, opcodeRow6, opcodeRow7]
  ++ [opcodeRow8, opcodeRow9, opcodeRowA, opcodeRowB]
  ++ [opcodeRowC, opcodeRowD, opcodeRowE, opcodeRowF]

/-- The table entry of an opcode byte: row by the high nibble, column by the low nibble (R93, R96). Both indexes are in
range for every byte, so the default is never reached. -/
def opcodeEntry (op : Byte) : OpcodeEntry :=
  (opcodeMatrix.getD (op.toNat / 16) []).getD (op.toNat % 16) (.one .brk)

/-- Why a byte string holds no complete instruction. -/
inductive DecodeError where
  /-- The string is empty: there is no opcode byte. -/
  | noOpcode
  /-- The string ends before the last operand byte of its opcode (R90). -/
  | missingOperand
  deriving DecidableEq, Repr

/-- The decoder: the instruction at the head of a byte string and the bytes after it, or the reason there is none. -/
def decode : List Byte → Except DecodeError (Instr × List Byte)
  | [] => .error .noOpcode
  | op :: rest =>
    match opcodeEntry op, rest with
    | .one i, rest => .ok (i, rest)
    | .two f, b :: rest => .ok (f b, rest)
    | .two _, [] => .error .missingOperand
    | .three f, lo :: hi :: rest => .ok (f (addrOf lo hi), rest)
    | .three _, _ => .error .missingOperand

/-- The operand form of an instruction: what R130 to R143 resolve. -/
inductive Shape where
  | implied
  | accumulator
  | immediate (b : Byte)
  | memory (o : Operand)
  | jump (j : JumpTo)
  | relative (c : Cond) (d : Byte)
  deriving DecidableEq, Repr

/-- The operand form of each instruction (R91, R96; conditions R221 to R229). -/
def Instr.shape : Instr → Shape
  | .ldaImm b => .immediate b
  | .ldaZp b => .memory (.zp b)
  | .ldaZpx b => .memory (.zpx b)
  | .ldaAbs w => .memory (.abs w)
  | .ldaAbx w => .memory (.abx w)
  | .ldaAby w => .memory (.aby w)
  | .ldaIzx b => .memory (.izx b)
  | .ldaIzy b => .memory (.izy b)
  | .ldaIzp b => .memory (.izp b)
  | .ldxImm b => .immediate b
  | .ldxZp b => .memory (.zp b)
  | .ldxZpy b => .memory (.zpy b)
  | .ldxAbs w => .memory (.abs w)
  | .ldxAby w => .memory (.aby w)
  | .ldyImm b => .immediate b
  | .ldyZp b => .memory (.zp b)
  | .ldyZpx b => .memory (.zpx b)
  | .ldyAbs w => .memory (.abs w)
  | .ldyAbx w => .memory (.abx w)
  | .staZp b => .memory (.zp b)
  | .staZpx b => .memory (.zpx b)
  | .staAbs w => .memory (.abs w)
  | .staAbx w => .memory (.abx w)
  | .staAby w => .memory (.aby w)
  | .staIzx b => .memory (.izx b)
  | .staIzy b => .memory (.izy b)
  | .staIzp b => .memory (.izp b)
  | .stxZp b => .memory (.zp b)
  | .stxZpy b => .memory (.zpy b)
  | .stxAbs w => .memory (.abs w)
  | .styZp b => .memory (.zp b)
  | .styZpx b => .memory (.zpx b)
  | .styAbs w => .memory (.abs w)
  | .stzZp b => .memory (.zp b)
  | .stzZpx b => .memory (.zpx b)
  | .stzAbs w => .memory (.abs w)
  | .stzAbx w => .memory (.abx w)
  | .tax => .implied
  | .tay => .implied
  | .txa => .implied
  | .tya => .implied
  | .tsx => .implied
  | .txs => .implied
  | .adcImm b => .immediate b
  | .adcZp b => .memory (.zp b)
  | .adcZpx b => .memory (.zpx b)
  | .adcAbs w => .memory (.abs w)
  | .adcAbx w => .memory (.abx w)
  | .adcAby w => .memory (.aby w)
  | .adcIzx b => .memory (.izx b)
  | .adcIzy b => .memory (.izy b)
  | .adcIzp b => .memory (.izp b)
  | .sbcImm b => .immediate b
  | .sbcZp b => .memory (.zp b)
  | .sbcZpx b => .memory (.zpx b)
  | .sbcAbs w => .memory (.abs w)
  | .sbcAbx w => .memory (.abx w)
  | .sbcAby w => .memory (.aby w)
  | .sbcIzx b => .memory (.izx b)
  | .sbcIzy b => .memory (.izy b)
  | .sbcIzp b => .memory (.izp b)
  | .cmpImm b => .immediate b
  | .cmpZp b => .memory (.zp b)
  | .cmpZpx b => .memory (.zpx b)
  | .cmpAbs w => .memory (.abs w)
  | .cmpAbx w => .memory (.abx w)
  | .cmpAby w => .memory (.aby w)
  | .cmpIzx b => .memory (.izx b)
  | .cmpIzy b => .memory (.izy b)
  | .cmpIzp b => .memory (.izp b)
  | .cpxImm b => .immediate b
  | .cpxZp b => .memory (.zp b)
  | .cpxAbs w => .memory (.abs w)
  | .cpyImm b => .immediate b
  | .cpyZp b => .memory (.zp b)
  | .cpyAbs w => .memory (.abs w)
  | .incAcc => .accumulator
  | .incZp b => .memory (.zp b)
  | .incZpx b => .memory (.zpx b)
  | .incAbs w => .memory (.abs w)
  | .incAbx w => .memory (.abx w)
  | .decAcc => .accumulator
  | .decZp b => .memory (.zp b)
  | .decZpx b => .memory (.zpx b)
  | .decAbs w => .memory (.abs w)
  | .decAbx w => .memory (.abx w)
  | .inx => .implied
  | .iny => .implied
  | .dex => .implied
  | .dey => .implied
  | .andImm b => .immediate b
  | .andZp b => .memory (.zp b)
  | .andZpx b => .memory (.zpx b)
  | .andAbs w => .memory (.abs w)
  | .andAbx w => .memory (.abx w)
  | .andAby w => .memory (.aby w)
  | .andIzx b => .memory (.izx b)
  | .andIzy b => .memory (.izy b)
  | .andIzp b => .memory (.izp b)
  | .oraImm b => .immediate b
  | .oraZp b => .memory (.zp b)
  | .oraZpx b => .memory (.zpx b)
  | .oraAbs w => .memory (.abs w)
  | .oraAbx w => .memory (.abx w)
  | .oraAby w => .memory (.aby w)
  | .oraIzx b => .memory (.izx b)
  | .oraIzy b => .memory (.izy b)
  | .oraIzp b => .memory (.izp b)
  | .eorImm b => .immediate b
  | .eorZp b => .memory (.zp b)
  | .eorZpx b => .memory (.zpx b)
  | .eorAbs w => .memory (.abs w)
  | .eorAbx w => .memory (.abx w)
  | .eorAby w => .memory (.aby w)
  | .eorIzx b => .memory (.izx b)
  | .eorIzy b => .memory (.izy b)
  | .eorIzp b => .memory (.izp b)
  | .bitZp b => .memory (.zp b)
  | .bitAbs w => .memory (.abs w)
  | .trbZp b => .memory (.zp b)
  | .trbAbs w => .memory (.abs w)
  | .tsbZp b => .memory (.zp b)
  | .tsbAbs w => .memory (.abs w)
  | .aslAcc => .accumulator
  | .aslZp b => .memory (.zp b)
  | .aslZpx b => .memory (.zpx b)
  | .aslAbs w => .memory (.abs w)
  | .aslAbx w => .memory (.abx w)
  | .lsrAcc => .accumulator
  | .lsrZp b => .memory (.zp b)
  | .lsrZpx b => .memory (.zpx b)
  | .lsrAbs w => .memory (.abs w)
  | .lsrAbx w => .memory (.abx w)
  | .rolAcc => .accumulator
  | .rolZp b => .memory (.zp b)
  | .rolZpx b => .memory (.zpx b)
  | .rolAbs w => .memory (.abs w)
  | .rolAbx w => .memory (.abx w)
  | .rorAcc => .accumulator
  | .rorZp b => .memory (.zp b)
  | .rorZpx b => .memory (.zpx b)
  | .rorAbs w => .memory (.abs w)
  | .rorAbx w => .memory (.abx w)
  | .bpl d => .relative .pl d
  | .bmi d => .relative .mi d
  | .bvc d => .relative .vc d
  | .bvs d => .relative .vs d
  | .bcc d => .relative .cc d
  | .bcs d => .relative .cs d
  | .bne d => .relative .ne d
  | .beq d => .relative .eq d
  | .bra d => .relative .always d
  | .jmpAbs w => .jump (.abs w)
  | .jmpInd w => .jump (.ind w)
  | .jmpIax w => .jump (.iax w)
  | .jsr w => .jump (.abs w)
  | .rts => .implied
  | .pha => .implied
  | .pla => .implied
  | .phx => .implied
  | .plx => .implied
  | .phy => .implied
  | .ply => .implied
  | .php => .implied
  | .plp => .implied
  | .clc => .implied
  | .sec => .implied
  | .cli => .implied
  | .sei => .implied
  | .cld => .implied
  | .sed => .implied
  | .clv => .implied
  | .nop => .implied
  | .brk => .implied
  | .rti => .implied
  | .undef02 => .implied
  | .undef03 => .implied
  | .undef07 => .implied
  | .undef0B => .implied
  | .undef0F => .implied
  | .undef13 => .implied
  | .undef17 => .implied
  | .undef1B => .implied
  | .undef1F => .implied
  | .undef22 => .implied
  | .undef23 => .implied
  | .undef27 => .implied
  | .undef2B => .implied
  | .undef2F => .implied
  | .undef33 => .implied
  | .undef34 => .implied
  | .undef37 => .implied
  | .undef3B => .implied
  | .undef3C => .implied
  | .undef3F => .implied
  | .undef42 => .implied
  | .undef43 => .implied
  | .undef44 => .implied
  | .undef47 => .implied
  | .undef4B => .implied
  | .undef4F => .implied
  | .undef53 => .implied
  | .undef54 => .implied
  | .undef57 => .implied
  | .undef5B => .implied
  | .undef5C => .implied
  | .undef5F => .implied
  | .undef62 => .implied
  | .undef63 => .implied
  | .undef67 => .implied
  | .undef6B => .implied
  | .undef6F => .implied
  | .undef73 => .implied
  | .undef77 => .implied
  | .undef7B => .implied
  | .undef7F => .implied
  | .undef82 => .implied
  | .undef83 => .implied
  | .undef87 => .implied
  | .undef89 => .implied
  | .undef8B => .implied
  | .undef8F => .implied
  | .undef93 => .implied
  | .undef97 => .implied
  | .undef9B => .implied
  | .undef9F => .implied
  | .undefA3 => .implied
  | .undefA7 => .implied
  | .undefAB => .implied
  | .undefAF => .implied
  | .undefB3 => .implied
  | .undefB7 => .implied
  | .undefBB => .implied
  | .undefBF => .implied
  | .undefC2 => .implied
  | .undefC3 => .implied
  | .undefC7 => .implied
  | .undefCB => .implied
  | .undefCF => .implied
  | .undefD3 => .implied
  | .undefD4 => .implied
  | .undefD7 => .implied
  | .undefDB => .implied
  | .undefDC => .implied
  | .undefDF => .implied
  | .undefE2 => .implied
  | .undefE3 => .implied
  | .undefE7 => .implied
  | .undefEB => .implied
  | .undefEF => .implied
  | .undefF3 => .implied
  | .undefF4 => .implied
  | .undefF7 => .implied
  | .undefFB => .implied
  | .undefFC => .implied
  | .undefFF => .implied

/-- The addressing mode of an operand form (R91). -/
def Shape.mode : Shape → Mode
  | .implied => .imp
  | .accumulator => .acc
  | .immediate _ => .imm
  | .memory (.zp _) => .zp
  | .memory (.zpx _) => .zpx
  | .memory (.zpy _) => .zpy
  | .memory (.abs _) => .abs
  | .memory (.abx _) => .abx
  | .memory (.aby _) => .aby
  | .memory (.izx _) => .izx
  | .memory (.izy _) => .izy
  | .memory (.izp _) => .izp
  | .jump (.abs _) => .abs
  | .jump (.ind _) => .ind
  | .jump (.iax _) => .iax
  | .relative _ _ => .rel

/-- The addressing mode of an instruction. -/
def Instr.mode (i : Instr) : Mode := i.shape.mode

/-- `len`, the encoded length of an instruction in bytes (R90, R121). -/
def Instr.len (i : Instr) : Nat := i.mode.len

/-- The opcode byte of each instruction (R96). -/
def Instr.opcode : Instr → Byte
  | .ldaImm _ => 0xA9#8
  | .ldaZp _ => 0xA5#8
  | .ldaZpx _ => 0xB5#8
  | .ldaAbs _ => 0xAD#8
  | .ldaAbx _ => 0xBD#8
  | .ldaAby _ => 0xB9#8
  | .ldaIzx _ => 0xA1#8
  | .ldaIzy _ => 0xB1#8
  | .ldaIzp _ => 0xB2#8
  | .ldxImm _ => 0xA2#8
  | .ldxZp _ => 0xA6#8
  | .ldxZpy _ => 0xB6#8
  | .ldxAbs _ => 0xAE#8
  | .ldxAby _ => 0xBE#8
  | .ldyImm _ => 0xA0#8
  | .ldyZp _ => 0xA4#8
  | .ldyZpx _ => 0xB4#8
  | .ldyAbs _ => 0xAC#8
  | .ldyAbx _ => 0xBC#8
  | .staZp _ => 0x85#8
  | .staZpx _ => 0x95#8
  | .staAbs _ => 0x8D#8
  | .staAbx _ => 0x9D#8
  | .staAby _ => 0x99#8
  | .staIzx _ => 0x81#8
  | .staIzy _ => 0x91#8
  | .staIzp _ => 0x92#8
  | .stxZp _ => 0x86#8
  | .stxZpy _ => 0x96#8
  | .stxAbs _ => 0x8E#8
  | .styZp _ => 0x84#8
  | .styZpx _ => 0x94#8
  | .styAbs _ => 0x8C#8
  | .stzZp _ => 0x64#8
  | .stzZpx _ => 0x74#8
  | .stzAbs _ => 0x9C#8
  | .stzAbx _ => 0x9E#8
  | .tax => 0xAA#8
  | .tay => 0xA8#8
  | .txa => 0x8A#8
  | .tya => 0x98#8
  | .tsx => 0xBA#8
  | .txs => 0x9A#8
  | .adcImm _ => 0x69#8
  | .adcZp _ => 0x65#8
  | .adcZpx _ => 0x75#8
  | .adcAbs _ => 0x6D#8
  | .adcAbx _ => 0x7D#8
  | .adcAby _ => 0x79#8
  | .adcIzx _ => 0x61#8
  | .adcIzy _ => 0x71#8
  | .adcIzp _ => 0x72#8
  | .sbcImm _ => 0xE9#8
  | .sbcZp _ => 0xE5#8
  | .sbcZpx _ => 0xF5#8
  | .sbcAbs _ => 0xED#8
  | .sbcAbx _ => 0xFD#8
  | .sbcAby _ => 0xF9#8
  | .sbcIzx _ => 0xE1#8
  | .sbcIzy _ => 0xF1#8
  | .sbcIzp _ => 0xF2#8
  | .cmpImm _ => 0xC9#8
  | .cmpZp _ => 0xC5#8
  | .cmpZpx _ => 0xD5#8
  | .cmpAbs _ => 0xCD#8
  | .cmpAbx _ => 0xDD#8
  | .cmpAby _ => 0xD9#8
  | .cmpIzx _ => 0xC1#8
  | .cmpIzy _ => 0xD1#8
  | .cmpIzp _ => 0xD2#8
  | .cpxImm _ => 0xE0#8
  | .cpxZp _ => 0xE4#8
  | .cpxAbs _ => 0xEC#8
  | .cpyImm _ => 0xC0#8
  | .cpyZp _ => 0xC4#8
  | .cpyAbs _ => 0xCC#8
  | .incAcc => 0x1A#8
  | .incZp _ => 0xE6#8
  | .incZpx _ => 0xF6#8
  | .incAbs _ => 0xEE#8
  | .incAbx _ => 0xFE#8
  | .decAcc => 0x3A#8
  | .decZp _ => 0xC6#8
  | .decZpx _ => 0xD6#8
  | .decAbs _ => 0xCE#8
  | .decAbx _ => 0xDE#8
  | .inx => 0xE8#8
  | .iny => 0xC8#8
  | .dex => 0xCA#8
  | .dey => 0x88#8
  | .andImm _ => 0x29#8
  | .andZp _ => 0x25#8
  | .andZpx _ => 0x35#8
  | .andAbs _ => 0x2D#8
  | .andAbx _ => 0x3D#8
  | .andAby _ => 0x39#8
  | .andIzx _ => 0x21#8
  | .andIzy _ => 0x31#8
  | .andIzp _ => 0x32#8
  | .oraImm _ => 0x09#8
  | .oraZp _ => 0x05#8
  | .oraZpx _ => 0x15#8
  | .oraAbs _ => 0x0D#8
  | .oraAbx _ => 0x1D#8
  | .oraAby _ => 0x19#8
  | .oraIzx _ => 0x01#8
  | .oraIzy _ => 0x11#8
  | .oraIzp _ => 0x12#8
  | .eorImm _ => 0x49#8
  | .eorZp _ => 0x45#8
  | .eorZpx _ => 0x55#8
  | .eorAbs _ => 0x4D#8
  | .eorAbx _ => 0x5D#8
  | .eorAby _ => 0x59#8
  | .eorIzx _ => 0x41#8
  | .eorIzy _ => 0x51#8
  | .eorIzp _ => 0x52#8
  | .bitZp _ => 0x24#8
  | .bitAbs _ => 0x2C#8
  | .trbZp _ => 0x14#8
  | .trbAbs _ => 0x1C#8
  | .tsbZp _ => 0x04#8
  | .tsbAbs _ => 0x0C#8
  | .aslAcc => 0x0A#8
  | .aslZp _ => 0x06#8
  | .aslZpx _ => 0x16#8
  | .aslAbs _ => 0x0E#8
  | .aslAbx _ => 0x1E#8
  | .lsrAcc => 0x4A#8
  | .lsrZp _ => 0x46#8
  | .lsrZpx _ => 0x56#8
  | .lsrAbs _ => 0x4E#8
  | .lsrAbx _ => 0x5E#8
  | .rolAcc => 0x2A#8
  | .rolZp _ => 0x26#8
  | .rolZpx _ => 0x36#8
  | .rolAbs _ => 0x2E#8
  | .rolAbx _ => 0x3E#8
  | .rorAcc => 0x6A#8
  | .rorZp _ => 0x66#8
  | .rorZpx _ => 0x76#8
  | .rorAbs _ => 0x6E#8
  | .rorAbx _ => 0x7E#8
  | .bpl _ => 0x10#8
  | .bmi _ => 0x30#8
  | .bvc _ => 0x50#8
  | .bvs _ => 0x70#8
  | .bcc _ => 0x90#8
  | .bcs _ => 0xB0#8
  | .bne _ => 0xD0#8
  | .beq _ => 0xF0#8
  | .bra _ => 0x80#8
  | .jmpAbs _ => 0x4C#8
  | .jmpInd _ => 0x6C#8
  | .jmpIax _ => 0x7C#8
  | .jsr _ => 0x20#8
  | .rts => 0x60#8
  | .pha => 0x48#8
  | .pla => 0x68#8
  | .phx => 0xDA#8
  | .plx => 0xFA#8
  | .phy => 0x5A#8
  | .ply => 0x7A#8
  | .php => 0x08#8
  | .plp => 0x28#8
  | .clc => 0x18#8
  | .sec => 0x38#8
  | .cli => 0x58#8
  | .sei => 0x78#8
  | .cld => 0xD8#8
  | .sed => 0xF8#8
  | .clv => 0xB8#8
  | .nop => 0xEA#8
  | .brk => 0x00#8
  | .rti => 0x40#8
  | .undef02 => 0x02#8
  | .undef03 => 0x03#8
  | .undef07 => 0x07#8
  | .undef0B => 0x0B#8
  | .undef0F => 0x0F#8
  | .undef13 => 0x13#8
  | .undef17 => 0x17#8
  | .undef1B => 0x1B#8
  | .undef1F => 0x1F#8
  | .undef22 => 0x22#8
  | .undef23 => 0x23#8
  | .undef27 => 0x27#8
  | .undef2B => 0x2B#8
  | .undef2F => 0x2F#8
  | .undef33 => 0x33#8
  | .undef34 => 0x34#8
  | .undef37 => 0x37#8
  | .undef3B => 0x3B#8
  | .undef3C => 0x3C#8
  | .undef3F => 0x3F#8
  | .undef42 => 0x42#8
  | .undef43 => 0x43#8
  | .undef44 => 0x44#8
  | .undef47 => 0x47#8
  | .undef4B => 0x4B#8
  | .undef4F => 0x4F#8
  | .undef53 => 0x53#8
  | .undef54 => 0x54#8
  | .undef57 => 0x57#8
  | .undef5B => 0x5B#8
  | .undef5C => 0x5C#8
  | .undef5F => 0x5F#8
  | .undef62 => 0x62#8
  | .undef63 => 0x63#8
  | .undef67 => 0x67#8
  | .undef6B => 0x6B#8
  | .undef6F => 0x6F#8
  | .undef73 => 0x73#8
  | .undef77 => 0x77#8
  | .undef7B => 0x7B#8
  | .undef7F => 0x7F#8
  | .undef82 => 0x82#8
  | .undef83 => 0x83#8
  | .undef87 => 0x87#8
  | .undef89 => 0x89#8
  | .undef8B => 0x8B#8
  | .undef8F => 0x8F#8
  | .undef93 => 0x93#8
  | .undef97 => 0x97#8
  | .undef9B => 0x9B#8
  | .undef9F => 0x9F#8
  | .undefA3 => 0xA3#8
  | .undefA7 => 0xA7#8
  | .undefAB => 0xAB#8
  | .undefAF => 0xAF#8
  | .undefB3 => 0xB3#8
  | .undefB7 => 0xB7#8
  | .undefBB => 0xBB#8
  | .undefBF => 0xBF#8
  | .undefC2 => 0xC2#8
  | .undefC3 => 0xC3#8
  | .undefC7 => 0xC7#8
  | .undefCB => 0xCB#8
  | .undefCF => 0xCF#8
  | .undefD3 => 0xD3#8
  | .undefD4 => 0xD4#8
  | .undefD7 => 0xD7#8
  | .undefDB => 0xDB#8
  | .undefDC => 0xDC#8
  | .undefDF => 0xDF#8
  | .undefE2 => 0xE2#8
  | .undefE3 => 0xE3#8
  | .undefE7 => 0xE7#8
  | .undefEB => 0xEB#8
  | .undefEF => 0xEF#8
  | .undefF3 => 0xF3#8
  | .undefF4 => 0xF4#8
  | .undefF7 => 0xF7#8
  | .undefFB => 0xFB#8
  | .undefFC => 0xFC#8
  | .undefFF => 0xFF#8

/-- The operand bytes of an operand form, in ascending address order, a 16-bit operand low byte first (R90, R92). -/
def Shape.operandBytes : Shape → List Byte
  | .implied => []
  | .accumulator => []
  | .immediate b => [b]
  | .memory (.zp b) => [b]
  | .memory (.zpx b) => [b]
  | .memory (.zpy b) => [b]
  | .memory (.abs w) => [lowByte w, highByte w]
  | .memory (.abx w) => [lowByte w, highByte w]
  | .memory (.aby w) => [lowByte w, highByte w]
  | .memory (.izx b) => [b]
  | .memory (.izy b) => [b]
  | .memory (.izp b) => [b]
  | .jump (.abs w) => [lowByte w, highByte w]
  | .jump (.ind w) => [lowByte w, highByte w]
  | .jump (.iax w) => [lowByte w, highByte w]
  | .relative _ d => [d]

/-- The encoder: the bytes of an instruction, opcode first (R90). -/
def encode (i : Instr) : List Byte := i.opcode :: i.shape.operandBytes

/-- The bytes of the host's opcode-table word: `nbits` bits of `w`, the first byte in bits 7..0, and zeros up to the longest
instruction, three bytes. -/
def tableWordBytes (nbits w : Nat) : List Byte :=
  let bits := w % 2 ^ nbits
  [BitVec.ofNat 8 bits, BitVec.ofNat 8 (bits / 256), BitVec.ofNat 8 (bits / 65536)]

/-- The instruction this decoder reads from a table word (the bits above `nbits` zero). -/
def decodeTableWord (nbits w : Nat) : Option Instr :=
  match decode (tableWordBytes nbits w) with
  | .ok (i, _) => some i
  | .error _ => none

end Sys2Proof
end

