-- ==== Sys2Proof/Machine/Flags.lean ====
section
/-! DEFINITION. The flags of the status word P (R23) and every flag computation of the instructions: Z and N (R26), the adder (R182), decimal
results (R181, R184, R197), compares (R187), BIT, TRB, TSB (R204 to R206), shifts (R207 to R210), branch conditions (R221 to R229). -/

namespace Sys2Proof.Machine

/-- The flags of P (R23). -/
inductive Flag where
  | c | z | i | d | b | u | v | n
  deriving DecidableEq, Repr

/-- The bit of P a flag is (R23). -/
def Flag.bit : Flag → Nat
  | .c => 0
  | .z => 1
  | .i => 2
  | .d => 3
  | .b => 4
  | .u => 5
  | .v => 6
  | .n => 7

/-- The mask of a flag in P (R23). -/
def Flag.mask (f : Flag) : Byte := 1#8 <<< f.bit

/-- `P.f`. -/
def getFlag (f : Flag) (p : Byte) : Bool := p.getLsbD f.bit

/-- `P.f <- v`: P with one flag changed. -/
def putFlag (f : Flag) (v : Bool) (p : Byte) : Byte :=
  if v then p ||| f.mask else p &&& ~~~f.mask

/-- `SetZN(v)` on P: Z iff the value is zero, N its bit 7 (R26). -/
def putZN (v p : Byte) : Byte := putFlag .n (v.getLsbD 7) (putFlag .z (v == 0) p)

/-- A byte loaded into P: bit 5 is forced to 1 (R24). -/
def statusFrom (v : Byte) : Byte := v ||| Flag.u.mask

/-- What an adder gives: result, carry out, overflow. -/
structure Sum where
  result   : Byte
  carry    : Bool
  overflow : Bool
  deriving DecidableEq, Repr

/-- `adc_bin(a, m, c)` (R182). -/
def adcBin (a m : Byte) (c : Bool) : Sum :=
  let s := a.toNat + m.toNat + c.toNat
  let r : Byte := BitVec.ofNat 8 s
  { result := r, carry := decide (s > 0xFF), overflow := ((a ^^^ r) &&& (m ^^^ r) &&& 0x80) != 0 }

/-- ADC's sum: binary, or with D set the decimal function's result and carry with the binary overflow (R181, R197). -/
def adcSum (dec : DecimalFn) (a m : Byte) (c d : Bool) : Sum :=
  let bin := adcBin a m c
  if d then { bin with result := (dec a m c).1, carry := (dec a m c).2 } else bin

/-- SBC's sum: A + ~M + C, or with D set the decimal function's result and carry with the binary overflow (R184, R197). -/
def sbcSum (dec : DecimalFn) (a m : Byte) (c d : Bool) : Sum :=
  let bin := adcBin a (m ^^^ 0xFF) c
  if d then { bin with result := (dec a m c).1, carry := (dec a m c).2 } else bin

/-- P after ADC or SBC: C, V, Z, N from the sum (R181, R184). -/
def putSum (r : Sum) (p : Byte) : Byte :=
  putZN r.result (putFlag .v r.overflow (putFlag .c r.carry p))

/-- P after a compare of a register with memory: C is `>=`, Z is equality, N bit 7 of the difference (R187). -/
def putCompare (reg m p : Byte) : Byte :=
  putFlag .n ((reg - m).getLsbD 7) (putFlag .z (reg == m) (putFlag .c (decide (reg.toNat ≥ m.toNat)) p))

/-- P after BIT: Z from `A & M`, N and V from M (R204). -/
def putBit (a m p : Byte) : Byte :=
  putFlag .v (m.getLsbD 6) (putFlag .n (m.getLsbD 7) (putFlag .z ((a &&& m) == 0) p))

/-- P after TRB or TSB: Z from `A & M` with the old memory byte (R205, R206). -/
def putTest (a m p : Byte) : Byte := putFlag .z ((a &&& m) == 0) p

/-- The result of ASL (R207). -/
def aslResult (v : Byte) : Byte := v <<< 1

/-- The result of LSR (R208). -/
def lsrResult (v : Byte) : Byte := v >>> 1

/-- The result of ROL, the old carry entering bit 0 (R209). -/
def rolResult (v : Byte) (c : Bool) : Byte := (v <<< 1) ||| (if c then 0x01 else 0x00)

/-- The result of ROR, the old carry entering bit 7 (R210). -/
def rorResult (v : Byte) (c : Bool) : Byte := (v >>> 1) ||| (if c then 0x80 else 0x00)

/-- The four one-bit moves: the result from the byte and the carry, and the bit that leaves to carry (R207 to R210). -/
inductive Shift where
  | asl | lsr | rol | ror
  deriving DecidableEq, Repr

/-- The result of a shift or rotate of `v` with P as it stands. -/
def shiftResult (k : Shift) (v p : Byte) : Byte :=
  match k with
  | .asl => aslResult v
  | .lsr => lsrResult v
  | .rol => rolResult v (getFlag .c p)
  | .ror => rorResult v (getFlag .c p)

/-- The bit of `v` that a shift or rotate moves into C. -/
def shiftCarry (k : Shift) (v : Byte) : Bool :=
  match k with
  | .asl => v.getLsbD 7
  | .lsr => v.getLsbD 0
  | .rol => v.getLsbD 7
  | .ror => v.getLsbD 0

/-- P after a shift or rotate: C the bit that left, Z and N from the result (R207 to R210). -/
def putShift (k : Shift) (v p : Byte) : Byte :=
  putZN (shiftResult k v p) (putFlag .c (shiftCarry k v) p)

/-- Whether a branch condition holds of P (R221 to R229). -/
def condHolds (c : Cond) (p : Byte) : Bool :=
  match c with
  | .pl => !getFlag .n p
  | .mi => getFlag .n p
  | .vc => !getFlag .v p
  | .vs => getFlag .v p
  | .cc => !getFlag .c p
  | .cs => getFlag .c p
  | .ne => !getFlag .z p
  | .eq => getFlag .z p
  | .always => true

end Sys2Proof.Machine
end

