-- ==== Sys2Proof/Machine/Timer.lean ====
section
/-! DEFINITION. One timer instance: register reads and writes (R330 to R336), the I/O ports (R339 to R342), and the per-instruction
update (R320 to R326). No operation here touches anything outside the instance (R348). -/

namespace Sys2Proof.Machine

/-- The register at an offset in a timer's 16-byte region (R312, R313): the low four bits of `addr - base`. -/
def timerRegAt (offset : Addr) : TimerReg :=
  match offset.toNat % 16 with
  | 0 => .orb
  | 1 => .ora
  | 2 => .ddrb
  | 3 => .ddra
  | 4 => .t1cl
  | 5 => .t1ch
  | 6 => .t1ll
  | 7 => .t1lh
  | 8 => .t2cl
  | 9 => .t2ch
  | 10 => .sr
  | 11 => .acr
  | 12 => .pcr
  | 13 => .ifr
  | 14 => .ier
  | _ => .oraNh

/-- `reg[r]`. -/
def Timer.reg (r : TimerReg) (t : Timer) : Byte :=
  match r with
  | .orb => t.orb
  | .ora => t.ora
  | .ddrb => t.ddrb
  | .ddra => t.ddra
  | .t1cl => t.t1cl
  | .t1ch => t.t1ch
  | .t1ll => t.t1ll
  | .t1lh => t.t1lh
  | .t2cl => t.t2cl
  | .t2ch => t.t2ch
  | .sr => t.sr
  | .acr => t.acr
  | .pcr => t.pcr
  | .ifr => t.ifr
  | .ier => t.ier
  | .oraNh => t.oraNh

/-- `reg[r] <- v`, and nothing else. -/
def Timer.put (r : TimerReg) (v : Byte) (t : Timer) : Timer :=
  match r with
  | .orb => { t with orb := v }
  | .ora => { t with ora := v }
  | .ddrb => { t with ddrb := v }
  | .ddra => { t with ddra := v }
  | .t1cl => { t with t1cl := v }
  | .t1ch => { t with t1ch := v }
  | .t1ll => { t with t1ll := v }
  | .t1lh => { t with t1lh := v }
  | .t2cl => { t with t2cl := v }
  | .t2ch => { t with t2ch := v }
  | .sr => { t with sr := v }
  | .acr => { t with acr := v }
  | .pcr => { t with pcr := v }
  | .ifr => { t with ifr := v }
  | .ier => { t with ier := v }
  | .oraNh => { t with oraNh := v }

/-- `dir(p)` (R339). -/
def Timer.direction (port : Port) (t : Timer) : Byte :=
  match port with
  | .a => t.ddra
  | .b => t.ddrb

/-- `in_latch[p]` (R315). -/
def Timer.inLatch (port : Port) (t : Timer) : BitVec 16 :=
  match port with
  | .a => t.inLatchA
  | .b => t.inLatchB

/-- `out_latch[p]` (R315). -/
def Timer.outLatch (port : Port) (t : Timer) : BitVec 16 :=
  match port with
  | .a => t.outLatchA
  | .b => t.outLatchB

/-- `out_latch[p] <- v`. -/
def Timer.putOutLatch (port : Port) (v : BitVec 16) (t : Timer) : Timer :=
  match port with
  | .a => { t with outLatchA := v }
  | .b => { t with outLatchB := v }

/-- `RecomputeOut(p, v)` (R340): written bits where the direction bit is 0, input bits where it is 1; bits 15..8 become 0. -/
def Timer.recomputeOut (port : Port) (v : Byte) (t : Timer) : Timer :=
  let d := t.direction port
  t.putOutLatch port (((v &&& ~~~d) ||| (lowByte (t.inLatch port) &&& d)).setWidth 16)

/-- Clears the interrupt flags of a mask (R330, R332). -/
def Timer.clearFlags (mask : Byte) (t : Timer) : Timer := { t with ifr := t.ifr &&& ~~~mask }

/-- `read_register(i, r)` (R330): the flags of `ReadClears` are cleared first, then the raw register is returned. -/
def Timer.readRegister (q : Params) (r : TimerReg) (t : Timer) : Byte × Timer :=
  let t := t.clearFlags (readClears q r)
  (t.reg r, t)

/-- IER after a write of `v`: bit 7 selects set or clear of the low seven bits (R334). -/
def ierAfterWrite (ier v : Byte) : Byte :=
  if v.getLsbD 7 then ier ||| (v &&& 0x7F) else ier &&& ~~~(v &&& 0x7F)

/-- `write_register(i, r, v)` (R332): the flags of `WriteClears` are cleared, then the register-specific effect. A write of T1C-H reloads the whole counter
from the latch (R333); every register not named is a plain store, IFR included (R335, R336). -/
def Timer.writeRegister (q : Params) (r : TimerReg) (v : Byte) (t : Timer) : Timer :=
  let t := t.clearFlags (writeClears q r)
  match r with
  | .orb => (t.put .orb v).recomputeOut .b v
  | .ora => (t.put .ora v).recomputeOut .a v
  | .oraNh => (t.put .oraNh v).recomputeOut .a v
  | .t1ch => { t with t1cl := t.t1ll, t1ch := t.t1lh }
  | .ier => { t with ier := ierAfterWrite t.ier v }
  | .ddrb => t.put .ddrb v
  | .ddra => t.put .ddra v
  | .t1cl => t.put .t1cl v
  | .t1ll => t.put .t1ll v
  | .t1lh => t.put .t1lh v
  | .t2cl => t.put .t2cl v
  | .t2ch => t.put .t2ch v
  | .sr => t.put .sr v
  | .acr => t.put .acr v
  | .pcr => t.put .pcr v
  | .ifr => t.put .ifr v

/-- The input latch after `set_input_port` (R341). -/
def latchAfter (op : PortOp) (mask latch : BitVec 16) : BitVec 16 :=
  match op with
  | .orIn => latch ||| mask
  | .andOut => latch &&& ~~~mask
  | .replace => mask

/-- `set_input_port(i, p, op, m)` (R341): the input latch, then the port's visible data registers as `~dir & in_latch`. -/
def Timer.setInputPort (port : Port) (op : PortOp) (mask : BitVec 16) (t : Timer) : Timer :=
  let latch := latchAfter op mask (t.inLatch port)
  let visible := ~~~(t.direction port) &&& lowByte latch
  match port with
  | .a => { t with inLatchA := latch, ora := visible, oraNh := visible }
  | .b => { t with inLatchB := latch, orb := visible }

/-- `T1C`, the timer-1 counter (R314). -/
def Timer.counter1 (t : Timer) : Nat := (addrOf t.t1cl t.t1ch).toNat

/-- `T1L`, the timer-1 latch (R314). -/
def Timer.latch1 (t : Timer) : Nat := (addrOf t.t1ll t.t1lh).toNat

/-- `T2C`, the timer-2 counter (R314). -/
def Timer.counter2 (t : Timer) : Nat := (addrOf t.t2cl t.t2ch).toNat

/-- Stores the timer-1 counter, low byte to reg 4 and high byte to reg 5 (R314). -/
def Timer.putCounter1 (n : Nat) (t : Timer) : Timer :=
  { t with t1cl := lowByte (BitVec.ofNat 16 n), t1ch := highByte (BitVec.ofNat 16 n) }

/-- Stores the timer-2 counter, low byte to reg 8 and high byte to reg 9 (R314). -/
def Timer.putCounter2 (n : Nat) (t : Timer) : Timer :=
  { t with t2cl := lowByte (BitVec.ofNat 16 n), t2ch := highByte (BitVec.ofNat 16 n) }

/-- `repeat c <- c + (l + 1) until c >= 0` (R320 step 1), at most `fuel` times. Each turn adds at least 1, so a fuel of the elapsed
cycles is always enough. -/
def reloadCounter : Nat → Int → Nat → Int
  | 0, c, _ => c
  | fuel + 1, c, l => if c < 0 then reloadCounter fuel (c + (l + 1)) l else c

/-- Timer 1 after `e` cycles: the new counter and whether it timed out (R320 step 1). Continuous mode reloads on underflow; one-shot mode
clamps at zero and times out in the one update that reaches it. -/
def timer1Next (continuous : Bool) (c l e : Nat) : Nat × Bool :=
  if continuous then
    let d : Int := (c : Int) - e
    if d < 0 then ((reloadCounter e d l).toNat, true) else (d.toNat, false)
  else if c > 0 then (c - e, decide (c - e = 0))
  else (0, false)

/-- The output line of port B bit 7 at a timer-1 timeout: toggled in continuous mode, forced high in one-shot mode, if ACR bit 7 is set
(R320 step 1, R326; log 23). -/
def Timer.outputLine (t : Timer) : Timer :=
  if t.acr.getLsbD 7 then
    if t.acr.getLsbD 6 then { t with outLatchB := t.outLatchB ^^^ 0x0080 }
    else { t with outLatchB := t.outLatchB ||| 0x0080 }
  else t

/-- R320 steps 1 and 2: timer 1 and, on a timeout, the output line and IFR bit 6. -/
def Timer.updateTimer1 (e : Nat) (t : Timer) : Timer :=
  let next := timer1Next (t.acr.getLsbD 6) t.counter1 t.latch1 e
  let t := if next.2 then t.outputLine else t
  let t := t.putCounter1 next.1
  if next.2 then { t with ifr := t.ifr ||| 0x40 } else t

/-- R320 step 3: timer 2 counts down and wraps modulo 65536, setting IFR bit 5, only with ACR bit 5 set. With the bit clear nothing
changes (R325, D30; log 18). -/
def Timer.updateTimer2 (e : Nat) (t : Timer) : Timer :=
  if t.acr.getLsbD 5 then
    let d : Int := (t.counter2 : Int) - e
    if d < 0 then { t.putCounter2 (d % 65536).toNat with ifr := t.ifr ||| 0x20 } else t.putCounter2 d.toNat
  else t

/-- R320 step 4: some flag is both set and enabled. -/
def Timer.requests (t : Timer) : Bool := ((t.ier &&& 0x7F) &&& (t.ifr &&& 0x7F)) != 0

/-- `TimerUpdate(i, e)` (R320): whether an interrupt is requested, and the instance after the update. -/
def Timer.update (e : Nat) (t : Timer) : Bool × Timer :=
  let t := (t.updateTimer1 e).updateTimer2 e
  if t.requests then (true, { t with ifr := t.ifr ||| 0x80 }) else (false, { t with ifr := t.ifr &&& 0x7F })

end Sys2Proof.Machine
end

