-- ==== Sys2Proof/Machine/Bus.lean ====
section
/-! DEFINITION. The Bus: the core's inputs (R283, R284, R287, R341), the callbacks of timers and external devices (R62, R312), and the Bus
read and write algorithms (R57, R58). Every access of the CPU is one of the two (R50). -/

namespace Sys2Proof.Machine

/-- `assert_irq()` (R283): the request is latched and the break flag cleared. -/
def assertIrq (s : State) : State := (s.setIrqPending true).setP (putFlag .b false s.p)

/-- `assert_nmi()` (R284): the request is latched and the break flag cleared. -/
def assertNmi (s : State) : State := (s.setNmiPending true).setP (putFlag .b false s.p)

/-- `arm_delayed_nmi()` (R287): the countdown starts, or starts again, at 8. -/
def armDelayedNmi (s : State) : State := s.setNmiDelay Config.delayedNmiStart

/-- Replaces timer instance `i` by its image under `f`; a number no instance has changes nothing. -/
def State.modifyTimer (i : Nat) (f : Timer → Timer) (s : State) : State := s.setTimers (s.timers.modify i f)

/-- One input of the core (R62). -/
def runInput (c : CoreInput) (s : State) : State :=
  match c with
  | .assertIrq => assertIrq s
  | .assertNmi => assertNmi s
  | .armDelayedNmi => armDelayedNmi s
  | .setInputPort i port op mask => s.modifyTimer i (Timer.setInputPort port op mask)

/-- The inputs of one callback, in order. -/
def runInputs : List CoreInput → State → State
  | [], s => s
  | c :: rest, s => runInputs rest (runInput c s)

/-- The next answer of an external device: the script's head, or the free value of Config once the script is used up
(R62, log 8). -/
def takeAnswer (device : Nat) (addr : Addr) (written : Option Byte) (s : State) : DeviceAnswer × State :=
  match s.script with
  | answer :: rest => (answer, s.setScript rest)
  | [] => (Config.deviceAnswer s.answered device addr written, s.setAnswered (s.answered + 1))

/-- A read callback (R53, R62, R312): the byte it returns and the state after its side effects. `first` is the region's first address. A
timer's register is read by its offset in the region; a number no instance has returns 0 (log 15). -/
def readCallback (client : Client) (first addr : Addr) (s : State) : Byte × State :=
  match client with
  | .timer i =>
    match s.timers[i]? with
    | some t => ((t.readRegister s.params (timerRegAt (addr - first))).1,
        s.setTimers (s.timers.set i (t.readRegister s.params (timerRegAt (addr - first))).2))
    | none => (0, s)
  | .external device =>
    let answer := takeAnswer device addr none s
    (answer.1.byte, runInputs answer.1.calls answer.2)

/-- A write callback (R53, R62, R312). -/
def writeCallback (client : Client) (first addr : Addr) (v : Byte) (s : State) : State :=
  match client with
  | .timer i => s.modifyTimer i (Timer.writeRegister s.params (timerRegAt (addr - first)) v)
  | .external device =>
    let answer := takeAnswer device addr (some v) s
    runInputs answer.1.calls answer.2

/-- A region matches an address inside its inclusive bounds (R54). -/
def Region.covers (addr : Addr) (r : Region) : Bool :=
  decide (r.first.toNat ≤ addr.toNat) && decide (addr.toNat ≤ r.last.toNat)

/-- The matching regions, in registration order (R57, R58). -/
def State.matching (addr : Addr) (s : State) : List Region := s.regions.filter (Region.covers addr)

/-- The read callbacks of the matching regions, each once, in order: the OR of what they return, and the state after them (R57). -/
def readRegions (addr : Addr) : List Region → State → Byte × State
  | [], s => (0, s)
  | r :: rest, s =>
    match r.reader with
    | some client =>
      let head := readCallback client r.first addr s
      let tail := readRegions addr rest head.2
      (head.1 ||| tail.1, tail.2)
    | none => readRegions addr rest s

/-- `BusRead(addr)` (R57): no match gives `Mem[addr]`; otherwise the OR of the callbacks, with `Mem[addr]` if a matching region backs
memory. -/
def busRead (addr : Addr) (s : State) : Byte × State :=
  match s.matching addr with
  | [] => (s.memByte addr, s)
  | hits =>
    let got := readRegions addr hits s
    if hits.any Region.backs then (got.1 ||| got.2.memByte addr, got.2) else got

/-- R58 step 1: for each matching region in order, the backed store (not gated by `ReadOnly`), then the write callback. -/
def writeRegions (addr : Addr) (v : Byte) : List Region → State → State
  | [], s => s
  | r :: rest, s =>
    let stored := if r.backs then s.memStore addr v else s
    let called := match r.writer with
      | some client => writeCallback client r.first addr v stored
      | none => stored
    writeRegions addr v rest called

/-- `BusWrite(addr, v)` (R58): the matching regions, then the fall-through store unless the byte is read-only. -/
def busWrite (addr : Addr) (v : Byte) (s : State) : State :=
  let s := writeRegions addr v (s.matching addr) s
  if s.isReadOnly addr then s else s.memStore addr v

/-- `MemRead(addr, 2)`: low byte first, then the byte at `addr + 1` with 16-bit carry (`00_scope.md` section 7). -/
def busReadWord (addr : Addr) (s : State) : Addr × State :=
  let lo := busRead addr s
  let hi := busRead (addr + 1) lo.2
  (addrOf lo.1 hi.1, hi.2)

end Sys2Proof.Machine
end

