-- ==== Sys2Proof/Machine/Ops.lean ====
section
/-! DEFINITION. The named operations over registers, stack and Bus: push and pull (R25), taking an interrupt or the software interrupt as
ONE operation and the return beside it (R259, R260, R280, R281), the instruction boundary (R120, R278), and CPU reset and continue
(R360, R297). -/

namespace Sys2Proof.Machine

/-- The stack location S designates (R22). -/
def stackAddr (sp : Byte) : Addr := 0x0100 + sp.setWidth 16

/-- `Push(v)` (R25): write at 0x0100 + S, then S - 1 modulo 256. -/
def push (v : Byte) (s : State) : State :=
  let t := busWrite (stackAddr s.sp) v s
  t.setSp (t.sp - 1)

/-- `Pull()` (R25): S + 1 modulo 256, then read at 0x0100 + S. -/
def pull (s : State) : Byte × State :=
  let t := s.setSp (s.sp + 1)
  busRead (stackAddr t.sp) t

/-- Pushes a 16-bit value, high byte first, so that it lies little-endian (R63, R231). -/
def pushWord (w : Addr) (s : State) : State := push (lowByte w) (push (highByte w) s)

/-- Pulls a 16-bit value, low byte first. -/
def pullWord (s : State) : Addr × State :=
  let lo := pull s
  let hi := pull lo.2
  (addrOf lo.1 hi.1, hi.2)

/-- NMI vector (R67). -/
def nmiVector : Addr := 0xFFFA

/-- Reset vector (R67). -/
def resetVector : Addr := 0xFFFC

/-- IRQ vector, of BRK and of every undefined slot too (R67). -/
def irqVector : Addr := 0xFFFE

/-- TAKING AN EXCEPTION, shared by BRK (R259), IRQ service (R280) and NMI service (R281): push PCH, PCL; for the software interrupt set
B; push P; set I; load PC from the vector. PC is what is to be stacked. -/
def enterInterrupt (setsBreak : Bool) (vector : Addr) (s : State) : State :=
  let s := pushWord s.pc s
  let s := if setsBreak then s.setP (putFlag .b true s.p) else s
  let s := push s.p s
  let s := s.setP (putFlag .i true s.p)
  let target := busReadWord vector s
  target.2.setPc target.1

/-- THE RETURN, RTI (R260, R290): pull P with bit 5 forced to 1, then PC, with no 1 added. -/
def returnFromInterrupt (s : State) : State :=
  let status := pull s
  let s := status.2.setP (statusFrom status.1)
  let target := pullWord s
  target.2.setPc target.1

/-- The software interrupt (R259), of BRK and of every undefined slot (R261). On entry PC is the address after the opcode; one
padding byte is skipped, unread. -/
def softwareInterrupt (s : State) : State := enterInterrupt true irqVector (s.setPc (s.pc + 1))

/-- `ServiceIRQ()` (R280). -/
def serviceIrq (s : State) : State := (enterInterrupt false irqVector s).setIrqPending false

/-- `ServiceNMI()` (R281). It sets I, by the spec's decision D14 (log 19). -/
def serviceNmi (s : State) : State := (enterInterrupt false nmiVector s).setNmiPending false

/-- Boundary step 1: `TimerUpdate(i, cycles)` for each instance in ascending order; each request is an `assert_irq()` (R120, R276).
`assert_irq` touches no timer and is idempotent, so it is run once if any instance requests. -/
def updateTimers (cycles : Nat) (s : State) : State :=
  let t := s.setTimers (s.timers.map (fun t => (t.update cycles).2))
  if s.timers.any (fun t => (t.update cycles).1) then assertIrq t else t

/-- Boundary step 2: the delayed-NMI countdown, in instruction bytes (R288). -/
def countDown (len : Nat) (s : State) : State :=
  if s.nmiDelay > 0 then
    if s.nmiDelay ≤ len then (s.setNmiDelay 0).setNmiPending true else s.setNmiDelay (s.nmiDelay - len)
  else s

/-- Boundary step 3: the IRQ gate, with the I the instruction left (R279). -/
def irqGate (s : State) : State := if s.irqPending && !getFlag .i s.p then serviceIrq s else s

/-- Boundary step 4: the NMI test, not gated by I (R278, R281). -/
def nmiTest (s : State) : State := if s.nmiPending then serviceNmi s else s

/-- The instruction boundary, in exactly the order of R120 and R278. -/
def boundary (cycles len : Nat) (s : State) : State :=
  nmiTest (irqGate (countDown len (updateTimers cycles s)))

/-- CPU reset (R360): PC from the reset vector through the Bus, S, P, the pending latches and the countdown; A, X, Y and everything else
are not assigned. -/
def cpuReset (s : State) : State :=
  let target := busReadWord resetVector s
  ((((((target.2.setPc target.1).setSp 0xFF).setP 0x20).setIrqPending false).setNmiPending false).setNmiDelay 0)

/-- CPU `continue` (R297): the registers, P with bit 5 forced to 1; the pending latches and the countdown keep their values and no Bus
access is made. -/
def continueFrom (pc : Addr) (a x y sp psw : Byte) (s : State) : State :=
  (((((s.setPc pc).setA a).setX x).setY y).setSp sp).setP (statusFrom psw)

/-- `get_pc()` (R298). -/
def getPc (s : State) : Addr := s.pc

end Sys2Proof.Machine
end

