-- ==== Sys2Proof/Machine/HostOps.lean ====
section
/-! DEFINITION. What the host does between steps (R4, R9, R380): registering regions (R56), the timer's initialise, reset and reload (R319, R318,
R347), and the CPU's reset and continue of Machine/Ops.lean. -/

namespace Sys2Proof.Machine

/-- What `register` and `initialise` return (R56, R319). -/
inductive RegisterStatus where
  | success
  | deviceTableFull
  deriving DecidableEq, Repr

/-- `register(…)` (R56): the record goes to the end of the table while there is room; otherwise nothing changes. -/
def registerRegion (r : Region) (s : State) : RegisterStatus × State :=
  if s.regions.length < Config.maxDevices then (.success, s.setRegions (s.regions ++ [r])) else (.deviceTableFull, s)

/-- The region timer instance `i` registers for a base address (R312): sixteen addresses, both callbacks, not backing. -/
def timerRegion (i : Nat) (address : Addr) : Region :=
  { first := address, last := address + 15, reader := some (.timer i), writer := some (.timer i), backs := false }

/-- `initialise(…)` of a timer instance at a base address (R319): the base is set, the instance put in its reset state and registered. An
index past the last instance creates the next one (log 21). -/
def timerInitialise (i : Nat) (address : Addr) (s : State) : RegisterStatus × State :=
  let k := min i s.timers.length
  let t := Timer.fresh (some address)
  let timers := if k < s.timers.length then s.timers.set k t else s.timers ++ [t]
  registerRegion (timerRegion k address) (s.setTimers timers)

/-- Timer `reset` (R318): the instance whose base is `address` goes to its reset state. The spec does not say what happens when several
instances share that base, or none has it: DESIGN CHOICE, all of them are reset, or nothing happens (log 25). -/
def timerReset (address : Addr) (s : State) : State :=
  s.setTimers (s.timers.map (fun t => if t.base = some address then Timer.fresh t.base else t))

/-- The sixteen registers in ascending order. -/
def allTimerRegs : List TimerReg :=
  [.orb, .ora, .ddrb, .ddra, .t1cl, .t1ch, .t1ll, .t1lh] ++ [.t2cl, .t2ch, .sr, .acr, .pcr, .ifr, .ier, .oraNh]

/-- Writes registers in order from the mirror bytes at consecutive addresses. -/
def reloadFrom (q : Params) (mem : Memory) : Addr → List TimerReg → Timer → Timer
  | _, [], t => t
  | addr, r :: rest, t => reloadFrom q mem (addr + 1) rest (t.writeRegister q r (mem.read addr.toNat))

/-- `reload()` of one instance (R347): `Mem` is read directly and the registers are written directly. An instance without a base has no
mirror and is left alone (log 3). -/
def reloadTimer (q : Params) (mem : Memory) (t : Timer) : Timer :=
  match t.base with
  | some base => reloadFrom q mem base allTimerRegs t
  | none => t

/-- `reload()` (R347), every instance in ascending order. -/
def timerReload (s : State) : State := s.setTimers (s.timers.map (reloadTimer s.params s.mem))

/-- One host operation between two steps. -/
def runHostOp (op : HostOp) (s : State) : State :=
  match op with
  | .reset => cpuReset s
  | .resume pc a x y sp psw => continueFrom pc a x y sp psw s
  | .input c => runInput c s
  | .register r => (registerRegion r s).2
  | .markReadOnly first last => markReadOnly first last s
  | .loadImage start bytes => loadImage start bytes s
  | .timerInitialise i address => (timerInitialise i address s).2
  | .timerReset address => timerReset address s
  | .timerReload => timerReload s

end Sys2Proof.Machine
end

