-- ==== Sys2Proof/Machine/Operands.lean ====
section
/-! DEFINITION. The addressing-mode resolvers (R130 to R143) and the operand accesses of the operations (R144). The operand bytes have been
fetched, and PC stands after them, when these run (R120; log 12). -/

namespace Sys2Proof.Machine

/-- What a resolver gives: the effective address, whether adding the index changed its high byte (R125), and the state after the pointer
reads. -/
structure Resolved where
  ea      : Addr
  crossed : Bool
  state   : State

/-- A zero-page address (R92). -/
def zeroPage (b : Byte) : Addr := b.setWidth 16

/-- `sext_16` (`00_scope.md` section 7). -/
def signExtend16 (b : Byte) : Addr := b.signExtend 16

/-- Two addresses lie in different pages (R125). -/
def differentPage (a b : Addr) : Bool := highByte a != highByte b

/-- The word at a zero-page pointer: both bytes in page zero, the second address wrapping modulo 256 (R139, R140, R142). -/
def zeroPagePointer (b : Byte) (s : State) : Addr × State :=
  let lo := busRead (zeroPage b) s
  let hi := busRead (zeroPage (b + 1)) lo.2
  (addrOf lo.1 hi.1, hi.2)

/-- Indexing a base address: 16-bit addition, with the page-crossing indication (R125, R133, R134, R140). -/
def indexed (base : Addr) (index : Byte) (s : State) : Resolved :=
  let ea := base + index.setWidth 16
  { ea := ea, crossed := differentPage base ea, state := s }

/-- The effective address of a memory operand (R132 to R137, R139, R140, R142). -/
def resolve (o : Operand) (s : State) : Resolved :=
  match o with
  | .zp b => { ea := zeroPage b, crossed := false, state := s }
  | .zpx b => { ea := zeroPage (b + s.x), crossed := false, state := s }
  | .zpy b => { ea := zeroPage (b + s.y), crossed := false, state := s }
  | .abs w => { ea := w, crossed := false, state := s }
  | .abx w => indexed w s.x s
  | .aby w => indexed w s.y s
  | .izx b =>
    let ptr := zeroPagePointer (b + s.x) s
    { ea := ptr.1, crossed := false, state := ptr.2 }
  | .izy b =>
    let ptr := zeroPagePointer b s
    indexed ptr.1 s.y ptr.2
  | .izp b =>
    let ptr := zeroPagePointer b s
    { ea := ptr.1, crossed := false, state := ptr.2 }

/-- The target of a jump (R132, R138, R141): pointers are incremented with full 16-bit carry. -/
def jumpTarget (j : JumpTo) (s : State) : Addr × State :=
  match j with
  | .abs w => (w, s)
  | .ind w => busReadWord w s
  | .iax w => busReadWord (w + s.x.setWidth 16) s

/-- The target of a branch: PC, the address of the next instruction, plus the sign-extended displacement (R143). -/
def branchTarget (d : Byte) (pc : Addr) : Addr := pc + signExtend16 d

/-- `M` of a reading instruction: one Bus read of the effective address (R144), or the immediate byte, which the fetch has read (R131; log
12). -/
def readSource (src : Source) (s : State) : Byte × State :=
  match src with
  | .imm b => (b, s)
  | .mem o =>
    let r := resolve o s
    busRead r.ea r.state

/-- A store: one Bus write of the effective address, which is not read first (R144). -/
def storeTo (o : Operand) (v : Byte) (s : State) : State :=
  let r := resolve o s
  busWrite r.ea v r.state

/-- A read-modify-write: one Bus read and one Bus write of the effective address (R144). `result` gives the byte written from the byte read
and P; `before` is P's change before the write, `after` its change after it (the order each rule's pseudocode lists). -/
def modifyMemory (result before after : Byte → Byte → Byte) (o : Operand) (s : State) : State :=
  let r := resolve o s
  let got := busRead r.ea r.state
  let v := result got.1 got.2.p
  let s := got.2.setP (before got.1 got.2.p)
  let s := busWrite r.ea v s
  s.setP (after got.1 s.p)

/-- The page-crossing penalty of R124: one cycle in `abx` or `aby` if the base is 4, one in `izy` if the base is 5, when adding the index
changes the high byte; none in any other mode. -/
def indexPenalty (base : Nat) (o : Operand) (s : State) : Nat :=
  match o with
  | .abx _ => if base = 4 && (resolve o s).crossed then 1 else 0
  | .aby _ => if base = 4 && (resolve o s).crossed then 1 else 0
  | .izy _ => if base = 5 && (resolve o s).crossed then 1 else 0
  | .zp _ | .zpx _ | .zpy _ | .abs _ | .izx _ | .izp _ => 0

/-- The branch penalty of R124 and R220: one cycle if taken, one more if the target is in a different page from the next instruction. -/
def branchPenalty (c : Cond) (d : Byte) (s : State) : Nat :=
  if condHolds c s.p then
    1 + (if differentPage s.pc (branchTarget d s.pc) then 1 else 0)
  else 0

/-- `cycles` of an instruction (R123): its base value and the penalties, with `s` the state in which its operation starts. -/
def cyclesOf (i : Instr) (s : State) : Nat :=
  baseCycles s.params i.opcode +
    match i.shape with
    | .memory o => indexPenalty (baseCycles s.params i.opcode) o s
    | .relative c d => branchPenalty c d s
    | .implied | .accumulator | .immediate _ | .jump _ => 0

end Sys2Proof.Machine
end

