-- ==== Sys2Proof/Machine/LoadStore.lean ====
section
/-! DEFINITION. The meanings of load, store and transfer instructions (41_load_store_transfer.md, R160 to R173). PC stands at the next instruction
when a meaning runs (R120). -/

namespace Sys2Proof.Machine

/-- Puts a value into A and sets Z and N from it (R26). -/
def loadA (v : Byte) (s : State) : State := (s.setA v).setP (putZN v s.p)

/-- Puts a value into X and sets Z and N from it (R26). -/
def loadX (v : Byte) (s : State) : State := (s.setX v).setP (putZN v s.p)

/-- Puts a value into Y and sets Z and N from it (R26). -/
def loadY (v : Byte) (s : State) : State := (s.setY v).setP (putZN v s.p)

/-- `A <- M; SetZN(A)` (R161). -/
def lda (src : Source) (s : State) : State :=
  let got := readSource src s
  loadA got.1 got.2

/-- `X <- M; SetZN(X)` (R162). -/
def ldx (src : Source) (s : State) : State :=
  let got := readSource src s
  loadX got.1 got.2

/-- `Y <- M; SetZN(Y)` (R163). -/
def ldy (src : Source) (s : State) : State :=
  let got := readSource src s
  loadY got.1 got.2

/-- LDA immediate, 0xA9 (R161). -/
def execLdaImm (b : Byte) (s : State) : StepOutcome := .next (lda (.imm b) s)

/-- LDA zero-page, 0xA5 (R161). -/
def execLdaZp (b : Byte) (s : State) : StepOutcome := .next (lda (.mem (.zp b)) s)

/-- LDA zero-page,X, 0xB5 (R161). -/
def execLdaZpx (b : Byte) (s : State) : StepOutcome := .next (lda (.mem (.zpx b)) s)

/-- LDA absolute, 0xAD (R161). -/
def execLdaAbs (w : Addr) (s : State) : StepOutcome := .next (lda (.mem (.abs w)) s)

/-- LDA absolute,X, 0xBD (R161). -/
def execLdaAbx (w : Addr) (s : State) : StepOutcome := .next (lda (.mem (.abx w)) s)

/-- LDA absolute,Y, 0xB9 (R161). -/
def execLdaAby (w : Addr) (s : State) : StepOutcome := .next (lda (.mem (.aby w)) s)

/-- LDA (zero-page,X), 0xA1 (R161). -/
def execLdaIzx (b : Byte) (s : State) : StepOutcome := .next (lda (.mem (.izx b)) s)

/-- LDA (zero-page),Y, 0xB1 (R161). -/
def execLdaIzy (b : Byte) (s : State) : StepOutcome := .next (lda (.mem (.izy b)) s)

/-- LDA (zero-page), 0xB2 (R161). -/
def execLdaIzp (b : Byte) (s : State) : StepOutcome := .next (lda (.mem (.izp b)) s)

/-- LDX immediate, 0xA2 (R162). -/
def execLdxImm (b : Byte) (s : State) : StepOutcome := .next (ldx (.imm b) s)

/-- LDX zero-page, 0xA6 (R162). -/
def execLdxZp (b : Byte) (s : State) : StepOutcome := .next (ldx (.mem (.zp b)) s)

/-- LDX zero-page,Y, 0xB6 (R162). -/
def execLdxZpy (b : Byte) (s : State) : StepOutcome := .next (ldx (.mem (.zpy b)) s)

/-- LDX absolute, 0xAE (R162). -/
def execLdxAbs (w : Addr) (s : State) : StepOutcome := .next (ldx (.mem (.abs w)) s)

/-- LDX absolute,Y, 0xBE (R162). -/
def execLdxAby (w : Addr) (s : State) : StepOutcome := .next (ldx (.mem (.aby w)) s)

/-- LDY immediate, 0xA0 (R163). -/
def execLdyImm (b : Byte) (s : State) : StepOutcome := .next (ldy (.imm b) s)

/-- LDY zero-page, 0xA4 (R163). -/
def execLdyZp (b : Byte) (s : State) : StepOutcome := .next (ldy (.mem (.zp b)) s)

/-- LDY zero-page,X, 0xB4 (R163). -/
def execLdyZpx (b : Byte) (s : State) : StepOutcome := .next (ldy (.mem (.zpx b)) s)

/-- LDY absolute, 0xAC (R163). -/
def execLdyAbs (w : Addr) (s : State) : StepOutcome := .next (ldy (.mem (.abs w)) s)

/-- LDY absolute,X, 0xBC (R163). -/
def execLdyAbx (w : Addr) (s : State) : StepOutcome := .next (ldy (.mem (.abx w)) s)

/-- STA zero-page, 0x85 (R164). -/
def execStaZp (b : Byte) (s : State) : StepOutcome := .next (storeTo (.zp b) s.a s)

/-- STA zero-page,X, 0x95 (R164). -/
def execStaZpx (b : Byte) (s : State) : StepOutcome := .next (storeTo (.zpx b) s.a s)

/-- STA absolute, 0x8D (R164). -/
def execStaAbs (w : Addr) (s : State) : StepOutcome := .next (storeTo (.abs w) s.a s)

/-- STA absolute,X, 0x9D (R164). -/
def execStaAbx (w : Addr) (s : State) : StepOutcome := .next (storeTo (.abx w) s.a s)

/-- STA absolute,Y, 0x99 (R164). -/
def execStaAby (w : Addr) (s : State) : StepOutcome := .next (storeTo (.aby w) s.a s)

/-- STA (zero-page,X), 0x81 (R164). -/
def execStaIzx (b : Byte) (s : State) : StepOutcome := .next (storeTo (.izx b) s.a s)

/-- STA (zero-page),Y, 0x91 (R164). -/
def execStaIzy (b : Byte) (s : State) : StepOutcome := .next (storeTo (.izy b) s.a s)

/-- STA (zero-page), 0x92 (R164). -/
def execStaIzp (b : Byte) (s : State) : StepOutcome := .next (storeTo (.izp b) s.a s)

/-- STX zero-page, 0x86 (R165). -/
def execStxZp (b : Byte) (s : State) : StepOutcome := .next (storeTo (.zp b) s.x s)

/-- STX zero-page,Y, 0x96 (R165). -/
def execStxZpy (b : Byte) (s : State) : StepOutcome := .next (storeTo (.zpy b) s.x s)

/-- STX absolute, 0x8E (R165). -/
def execStxAbs (w : Addr) (s : State) : StepOutcome := .next (storeTo (.abs w) s.x s)

/-- STY zero-page, 0x84 (R166). -/
def execStyZp (b : Byte) (s : State) : StepOutcome := .next (storeTo (.zp b) s.y s)

/-- STY zero-page,X, 0x94 (R166). -/
def execStyZpx (b : Byte) (s : State) : StepOutcome := .next (storeTo (.zpx b) s.y s)

/-- STY absolute, 0x8C (R166). -/
def execStyAbs (w : Addr) (s : State) : StepOutcome := .next (storeTo (.abs w) s.y s)

/-- STZ zero-page, 0x64 (R167). -/
def execStzZp (b : Byte) (s : State) : StepOutcome := .next (storeTo (.zp b) 0x00 s)

/-- STZ zero-page,X, 0x74 (R167). -/
def execStzZpx (b : Byte) (s : State) : StepOutcome := .next (storeTo (.zpx b) 0x00 s)

/-- STZ absolute, 0x9C (R167). -/
def execStzAbs (w : Addr) (s : State) : StepOutcome := .next (storeTo (.abs w) 0x00 s)

/-- STZ absolute,X, 0x9E (R167). -/
def execStzAbx (w : Addr) (s : State) : StepOutcome := .next (storeTo (.abx w) 0x00 s)

/-- TAX, 0xAA (R168). -/
def execTax (s : State) : StepOutcome := .next (loadX s.a s)

/-- TAY, 0xA8 (R169). -/
def execTay (s : State) : StepOutcome := .next (loadY s.a s)

/-- TXA, 0x8A (R170). -/
def execTxa (s : State) : StepOutcome := .next (loadA s.x s)

/-- TYA, 0x98 (R171). -/
def execTya (s : State) : StepOutcome := .next (loadA s.y s)

/-- TSX, 0xBA (R172). -/
def execTsx (s : State) : StepOutcome := .next (loadX s.sp s)

/-- TXS, 0x9A (R173). No flag is written. -/
def execTxs (s : State) : StepOutcome := .next (s.setSp s.x)

end Sys2Proof.Machine
end

