-- ==== Sys2Proof/Machine/Arithmetic.lean ====
section
/-! DEFINITION. The meanings of the arithmetic, compare, increment and decrement instructions (42_arithmetic.md, R180 to R197). -/

namespace Sys2Proof.Machine

/-- ADC (R181): the sum of A, M and C, binary or by D decimal, with the machine's `dec_adc` (R183). -/
def adc (src : Source) (s : State) : State :=
  let dec := decAdc s.params
  let got := readSource src s
  let s := got.2
  let r := adcSum dec s.a got.1 (getFlag .c s.p) (getFlag .d s.p)
  (s.setA r.result).setP (putSum r s.p)

/-- SBC (R184): A - M - (1 - C), binary or by D decimal, with the machine's `dec_sbc` (R186). -/
def sbc (src : Source) (s : State) : State :=
  let dec := decSbc s.params
  let got := readSource src s
  let s := got.2
  let r := sbcSum dec s.a got.1 (getFlag .c s.p) (getFlag .d s.p)
  (s.setA r.result).setP (putSum r s.p)

/-- A compare of a register value with memory (R187 to R189). -/
def compare (reg : Byte) (src : Source) (s : State) : State :=
  let got := readSource src s
  got.2.setP (putCompare reg got.1 got.2.p)

/-- INC of memory: the byte plus 1, then Z and N from what was written (R190). -/
def incMemory (o : Operand) (s : State) : State :=
  modifyMemory (fun v _ => v + 1) (fun _ p => p) (fun v p => putZN (v + 1) p) o s

/-- DEC of memory: the byte minus 1, then Z and N from what was written (R191). -/
def decMemory (o : Operand) (s : State) : State :=
  modifyMemory (fun v _ => v - 1) (fun _ p => p) (fun v p => putZN (v - 1) p) o s

/-- ADC immediate, 0x69 (R181). -/
def execAdcImm (b : Byte) (s : State) : StepOutcome := .next (adc (.imm b) s)

/-- ADC zero-page, 0x65 (R181). -/
def execAdcZp (b : Byte) (s : State) : StepOutcome := .next (adc (.mem (.zp b)) s)

/-- ADC zero-page,X, 0x75 (R181). -/
def execAdcZpx (b : Byte) (s : State) : StepOutcome := .next (adc (.mem (.zpx b)) s)

/-- ADC absolute, 0x6D (R181). -/
def execAdcAbs (w : Addr) (s : State) : StepOutcome := .next (adc (.mem (.abs w)) s)

/-- ADC absolute,X, 0x7D (R181). -/
def execAdcAbx (w : Addr) (s : State) : StepOutcome := .next (adc (.mem (.abx w)) s)

/-- ADC absolute,Y, 0x79 (R181). -/
def execAdcAby (w : Addr) (s : State) : StepOutcome := .next (adc (.mem (.aby w)) s)

/-- ADC (zero-page,X), 0x61 (R181). -/
def execAdcIzx (b : Byte) (s : State) : StepOutcome := .next (adc (.mem (.izx b)) s)

/-- ADC (zero-page),Y, 0x71 (R181). -/
def execAdcIzy (b : Byte) (s : State) : StepOutcome := .next (adc (.mem (.izy b)) s)

/-- ADC (zero-page), 0x72 (R181). -/
def execAdcIzp (b : Byte) (s : State) : StepOutcome := .next (adc (.mem (.izp b)) s)

/-- SBC immediate, 0xE9 (R184). -/
def execSbcImm (b : Byte) (s : State) : StepOutcome := .next (sbc (.imm b) s)

/-- SBC zero-page, 0xE5 (R184). -/
def execSbcZp (b : Byte) (s : State) : StepOutcome := .next (sbc (.mem (.zp b)) s)

/-- SBC zero-page,X, 0xF5 (R184). -/
def execSbcZpx (b : Byte) (s : State) : StepOutcome := .next (sbc (.mem (.zpx b)) s)

/-- SBC absolute, 0xED (R184). -/
def execSbcAbs (w : Addr) (s : State) : StepOutcome := .next (sbc (.mem (.abs w)) s)

/-- SBC absolute,X, 0xFD (R184). -/
def execSbcAbx (w : Addr) (s : State) : StepOutcome := .next (sbc (.mem (.abx w)) s)

/-- SBC absolute,Y, 0xF9 (R184). -/
def execSbcAby (w : Addr) (s : State) : StepOutcome := .next (sbc (.mem (.aby w)) s)

/-- SBC (zero-page,X), 0xE1 (R184). -/
def execSbcIzx (b : Byte) (s : State) : StepOutcome := .next (sbc (.mem (.izx b)) s)

/-- SBC (zero-page),Y, 0xF1 (R184). -/
def execSbcIzy (b : Byte) (s : State) : StepOutcome := .next (sbc (.mem (.izy b)) s)

/-- SBC (zero-page), 0xF2 (R184). -/
def execSbcIzp (b : Byte) (s : State) : StepOutcome := .next (sbc (.mem (.izp b)) s)

/-- CMP immediate, 0xC9 (R187). -/
def execCmpImm (b : Byte) (s : State) : StepOutcome := .next (compare s.a (.imm b) s)

/-- CMP zero-page, 0xC5 (R187). -/
def execCmpZp (b : Byte) (s : State) : StepOutcome := .next (compare s.a (.mem (.zp b)) s)

/-- CMP zero-page,X, 0xD5 (R187). -/
def execCmpZpx (b : Byte) (s : State) : StepOutcome := .next (compare s.a (.mem (.zpx b)) s)

/-- CMP absolute, 0xCD (R187). -/
def execCmpAbs (w : Addr) (s : State) : StepOutcome := .next (compare s.a (.mem (.abs w)) s)

/-- CMP absolute,X, 0xDD (R187). -/
def execCmpAbx (w : Addr) (s : State) : StepOutcome := .next (compare s.a (.mem (.abx w)) s)

/-- CMP absolute,Y, 0xD9 (R187). -/
def execCmpAby (w : Addr) (s : State) : StepOutcome := .next (compare s.a (.mem (.aby w)) s)

/-- CMP (zero-page,X), 0xC1 (R187). -/
def execCmpIzx (b : Byte) (s : State) : StepOutcome := .next (compare s.a (.mem (.izx b)) s)

/-- CMP (zero-page),Y, 0xD1 (R187). -/
def execCmpIzy (b : Byte) (s : State) : StepOutcome := .next (compare s.a (.mem (.izy b)) s)

/-- CMP (zero-page), 0xD2 (R187). -/
def execCmpIzp (b : Byte) (s : State) : StepOutcome := .next (compare s.a (.mem (.izp b)) s)

/-- CPX immediate, 0xE0 (R188). -/
def execCpxImm (b : Byte) (s : State) : StepOutcome := .next (compare s.x (.imm b) s)

/-- CPX zero-page, 0xE4 (R188). -/
def execCpxZp (b : Byte) (s : State) : StepOutcome := .next (compare s.x (.mem (.zp b)) s)

/-- CPX absolute, 0xEC (R188). -/
def execCpxAbs (w : Addr) (s : State) : StepOutcome := .next (compare s.x (.mem (.abs w)) s)

/-- CPY immediate, 0xC0 (R189). -/
def execCpyImm (b : Byte) (s : State) : StepOutcome := .next (compare s.y (.imm b) s)

/-- CPY zero-page, 0xC4 (R189). -/
def execCpyZp (b : Byte) (s : State) : StepOutcome := .next (compare s.y (.mem (.zp b)) s)

/-- CPY absolute, 0xCC (R189). -/
def execCpyAbs (w : Addr) (s : State) : StepOutcome := .next (compare s.y (.mem (.abs w)) s)

/-- INC accumulator, 0x1A (R190). -/
def execIncAcc (s : State) : StepOutcome := .next (loadA (s.a + 1) s)

/-- INC zero-page, 0xE6 (R190). -/
def execIncZp (b : Byte) (s : State) : StepOutcome := .next (incMemory (.zp b) s)

/-- INC zero-page,X, 0xF6 (R190). -/
def execIncZpx (b : Byte) (s : State) : StepOutcome := .next (incMemory (.zpx b) s)

/-- INC absolute, 0xEE (R190). -/
def execIncAbs (w : Addr) (s : State) : StepOutcome := .next (incMemory (.abs w) s)

/-- INC absolute,X, 0xFE (R190). -/
def execIncAbx (w : Addr) (s : State) : StepOutcome := .next (incMemory (.abx w) s)

/-- DEC accumulator, 0x3A (R191). -/
def execDecAcc (s : State) : StepOutcome := .next (loadA (s.a - 1) s)

/-- DEC zero-page, 0xC6 (R191). -/
def execDecZp (b : Byte) (s : State) : StepOutcome := .next (decMemory (.zp b) s)

/-- DEC zero-page,X, 0xD6 (R191). -/
def execDecZpx (b : Byte) (s : State) : StepOutcome := .next (decMemory (.zpx b) s)

/-- DEC absolute, 0xCE (R191). -/
def execDecAbs (w : Addr) (s : State) : StepOutcome := .next (decMemory (.abs w) s)

/-- DEC absolute,X, 0xDE (R191). -/
def execDecAbx (w : Addr) (s : State) : StepOutcome := .next (decMemory (.abx w) s)

/-- INX, 0xE8 (R192). -/
def execInx (s : State) : StepOutcome := .next (loadX (s.x + 1) s)

/-- INY, 0xC8 (R193). -/
def execIny (s : State) : StepOutcome := .next (loadY (s.y + 1) s)

/-- DEX, 0xCA (R194). -/
def execDex (s : State) : StepOutcome := .next (loadX (s.x - 1) s)

/-- DEY, 0x88 (R195). -/
def execDey (s : State) : StepOutcome := .next (loadY (s.y - 1) s)

end Sys2Proof.Machine
end

