-- ==== Sys2Proof/Machine/Control.lean ====
section
/-! DEFINITION. The meanings of the branches, jumps and subroutine instructions (44_control_flow.md, R220 to R232). -/

namespace Sys2Proof.Machine

/-- `Branch(cond)` (R220): PC becomes the target if the condition holds; its cycles are `branchPenalty`. -/
def branch (c : Cond) (d : Byte) (s : State) : State :=
  if condHolds c s.p then s.setPc (branchTarget d s.pc) else s

/-- JMP: `PC <- ea` (R230). -/
def jump (j : JumpTo) (s : State) : State :=
  let target := jumpTarget j s
  target.2.setPc target.1

/-- JSR: push the address of the instruction's last byte, then jump (R231). -/
def callSubroutine (w : Addr) (s : State) : State := (pushWord (s.pc - 1) s).setPc w

/-- RTS: pull the address and add one (R232). -/
def returnFromSubroutine (s : State) : State :=
  let target := pullWord s
  target.2.setPc (target.1 + 1)

/-- BPL, 0x10 (R221). -/
def execBpl (d : Byte) (s : State) : StepOutcome := .next (branch .pl d s)

/-- BMI, 0x30 (R222). -/
def execBmi (d : Byte) (s : State) : StepOutcome := .next (branch .mi d s)

/-- BVC, 0x50 (R223). -/
def execBvc (d : Byte) (s : State) : StepOutcome := .next (branch .vc d s)

/-- BVS, 0x70 (R224). -/
def execBvs (d : Byte) (s : State) : StepOutcome := .next (branch .vs d s)

/-- BCC, 0x90 (R225). -/
def execBcc (d : Byte) (s : State) : StepOutcome := .next (branch .cc d s)

/-- BCS, 0xB0 (R226). -/
def execBcs (d : Byte) (s : State) : StepOutcome := .next (branch .cs d s)

/-- BNE, 0xD0 (R227). -/
def execBne (d : Byte) (s : State) : StepOutcome := .next (branch .ne d s)

/-- BEQ, 0xF0 (R228). -/
def execBeq (d : Byte) (s : State) : StepOutcome := .next (branch .eq d s)

/-- BRA, 0x80 (R229). -/
def execBra (d : Byte) (s : State) : StepOutcome := .next (branch .always d s)

/-- JMP absolute, 0x4C (R230). -/
def execJmpAbs (w : Addr) (s : State) : StepOutcome := .next (jump (.abs w) s)

/-- JMP (absolute), 0x6C (R230). -/
def execJmpInd (w : Addr) (s : State) : StepOutcome := .next (jump (.ind w) s)

/-- JMP (absolute,X), 0x7C (R230). -/
def execJmpIax (w : Addr) (s : State) : StepOutcome := .next (jump (.iax w) s)

/-- JSR, 0x20 (R231). -/
def execJsr (w : Addr) (s : State) : StepOutcome := .next (callSubroutine w s)

/-- RTS, 0x60 (R232). -/
def execRts (s : State) : StepOutcome := .next (returnFromSubroutine s)

end Sys2Proof.Machine
end

