-- ==== Sys2Proof/Machine/Logic.lean ====
section
/-! DEFINITION. The meanings of the logic, bit-test, shift and rotate instructions (43_logic_shift_bit.md, R200 to R210). -/

namespace Sys2Proof.Machine

/-- `A <- A op M; SetZN(A)` (R201 to R203). -/
def logicA (op : Byte → Byte → Byte) (src : Source) (s : State) : State :=
  let got := readSource src s
  loadA (op got.2.a got.1) got.2

/-- BIT: Z from `A & M`, N and V from M; A is not changed (R204). -/
def bitTest (o : Operand) (s : State) : State :=
  let got := readSource (.mem o) s
  got.2.setP (putBit got.2.a got.1 got.2.p)

/-- TRB: Z from `A & M`, then `M & ~A` is written (R205). -/
def trb (o : Operand) (s : State) : State :=
  modifyMemory (fun v _ => v &&& ~~~s.a) (fun v p => putTest s.a v p) (fun _ p => p) o s

/-- TSB: Z from `A & M`, then `M | A` is written (R206). -/
def tsb (o : Operand) (s : State) : State :=
  modifyMemory (fun v _ => v ||| s.a) (fun v p => putTest s.a v p) (fun _ p => p) o s

/-- A shift or rotate of A (R207 to R210, accumulator form). -/
def shiftA (k : Shift) (s : State) : State :=
  (s.setA (shiftResult k s.a s.p)).setP (putShift k s.a s.p)

/-- A shift or rotate of memory: the flags, then the write (R207 to R210, memory forms). -/
def shiftMemory (k : Shift) (o : Operand) (s : State) : State :=
  modifyMemory (shiftResult k) (putShift k) (fun _ p => p) o s

/-- AND immediate, 0x29 (R201). -/
def execAndImm (b : Byte) (s : State) : StepOutcome := .next (logicA (fun a m => a &&& m) (.imm b) s)

/-- AND zero-page, 0x25 (R201). -/
def execAndZp (b : Byte) (s : State) : StepOutcome := .next (logicA (fun a m => a &&& m) (.mem (.zp b)) s)

/-- AND zero-page,X, 0x35 (R201). -/
def execAndZpx (b : Byte) (s : State) : StepOutcome := .next (logicA (fun a m => a &&& m) (.mem (.zpx b)) s)

/-- AND absolute, 0x2D (R201). -/
def execAndAbs (w : Addr) (s : State) : StepOutcome := .next (logicA (fun a m => a &&& m) (.mem (.abs w)) s)

/-- AND absolute,X, 0x3D (R201). -/
def execAndAbx (w : Addr) (s : State) : StepOutcome := .next (logicA (fun a m => a &&& m) (.mem (.abx w)) s)

/-- AND absolute,Y, 0x39 (R201). -/
def execAndAby (w : Addr) (s : State) : StepOutcome := .next (logicA (fun a m => a &&& m) (.mem (.aby w)) s)

/-- AND (zero-page,X), 0x21 (R201). -/
def execAndIzx (b : Byte) (s : State) : StepOutcome := .next (logicA (fun a m => a &&& m) (.mem (.izx b)) s)

/-- AND (zero-page),Y, 0x31 (R201). -/
def execAndIzy (b : Byte) (s : State) : StepOutcome := .next (logicA (fun a m => a &&& m) (.mem (.izy b)) s)

/-- AND (zero-page), 0x32 (R201). -/
def execAndIzp (b : Byte) (s : State) : StepOutcome := .next (logicA (fun a m => a &&& m) (.mem (.izp b)) s)

/-- ORA immediate, 0x09 (R202). -/
def execOraImm (b : Byte) (s : State) : StepOutcome := .next (logicA (fun a m => a ||| m) (.imm b) s)

/-- ORA zero-page, 0x05 (R202). -/
def execOraZp (b : Byte) (s : State) : StepOutcome := .next (logicA (fun a m => a ||| m) (.mem (.zp b)) s)

/-- ORA zero-page,X, 0x15 (R202). -/
def execOraZpx (b : Byte) (s : State) : StepOutcome := .next (logicA (fun a m => a ||| m) (.mem (.zpx b)) s)

/-- ORA absolute, 0x0D (R202). -/
def execOraAbs (w : Addr) (s : State) : StepOutcome := .next (logicA (fun a m => a ||| m) (.mem (.abs w)) s)

/-- ORA absolute,X, 0x1D (R202). -/
def execOraAbx (w : Addr) (s : State) : StepOutcome := .next (logicA (fun a m => a ||| m) (.mem (.abx w)) s)

/-- ORA absolute,Y, 0x19 (R202). -/
def execOraAby (w : Addr) (s : State) : StepOutcome := .next (logicA (fun a m => a ||| m) (.mem (.aby w)) s)

/-- ORA (zero-page,X), 0x01 (R202). -/
def execOraIzx (b : Byte) (s : State) : StepOutcome := .next (logicA (fun a m => a ||| m) (.mem (.izx b)) s)

/-- ORA (zero-page),Y, 0x11 (R202). -/
def execOraIzy (b : Byte) (s : State) : StepOutcome := .next (logicA (fun a m => a ||| m) (.mem (.izy b)) s)

/-- ORA (zero-page), 0x12 (R202). -/
def execOraIzp (b : Byte) (s : State) : StepOutcome := .next (logicA (fun a m => a ||| m) (.mem (.izp b)) s)

/-- EOR immediate, 0x49 (R203). -/
def execEorImm (b : Byte) (s : State) : StepOutcome := .next (logicA (fun a m => a ^^^ m) (.imm b) s)

/-- EOR zero-page, 0x45 (R203). -/
def execEorZp (b : Byte) (s : State) : StepOutcome := .next (logicA (fun a m => a ^^^ m) (.mem (.zp b)) s)

/-- EOR zero-page,X, 0x55 (R203). -/
def execEorZpx (b : Byte) (s : State) : StepOutcome := .next (logicA (fun a m => a ^^^ m) (.mem (.zpx b)) s)

/-- EOR absolute, 0x4D (R203). -/
def execEorAbs (w : Addr) (s : State) : StepOutcome := .next (logicA (fun a m => a ^^^ m) (.mem (.abs w)) s)

/-- EOR absolute,X, 0x5D (R203). -/
def execEorAbx (w : Addr) (s : State) : StepOutcome := .next (logicA (fun a m => a ^^^ m) (.mem (.abx w)) s)

/-- EOR absolute,Y, 0x59 (R203). -/
def execEorAby (w : Addr) (s : State) : StepOutcome := .next (logicA (fun a m => a ^^^ m) (.mem (.aby w)) s)

/-- EOR (zero-page,X), 0x41 (R203). -/
def execEorIzx (b : Byte) (s : State) : StepOutcome := .next (logicA (fun a m => a ^^^ m) (.mem (.izx b)) s)

/-- EOR (zero-page),Y, 0x51 (R203). -/
def execEorIzy (b : Byte) (s : State) : StepOutcome := .next (logicA (fun a m => a ^^^ m) (.mem (.izy b)) s)

/-- EOR (zero-page), 0x52 (R203). -/
def execEorIzp (b : Byte) (s : State) : StepOutcome := .next (logicA (fun a m => a ^^^ m) (.mem (.izp b)) s)

/-- BIT zero-page, 0x24 (R204). -/
def execBitZp (b : Byte) (s : State) : StepOutcome := .next (bitTest (.zp b) s)

/-- BIT absolute, 0x2C (R204). -/
def execBitAbs (w : Addr) (s : State) : StepOutcome := .next (bitTest (.abs w) s)

/-- TRB zero-page, 0x14 (R205). -/
def execTrbZp (b : Byte) (s : State) : StepOutcome := .next (trb (.zp b) s)

/-- TRB absolute, 0x1C (R205). -/
def execTrbAbs (w : Addr) (s : State) : StepOutcome := .next (trb (.abs w) s)

/-- TSB zero-page, 0x04 (R206). -/
def execTsbZp (b : Byte) (s : State) : StepOutcome := .next (tsb (.zp b) s)

/-- TSB absolute, 0x0C (R206). -/
def execTsbAbs (w : Addr) (s : State) : StepOutcome := .next (tsb (.abs w) s)

/-- ASL accumulator, 0x0A (R207). -/
def execAslAcc (s : State) : StepOutcome := .next (shiftA .asl s)

/-- ASL zero-page, 0x06 (R207). -/
def execAslZp (b : Byte) (s : State) : StepOutcome := .next (shiftMemory .asl (.zp b) s)

/-- ASL zero-page,X, 0x16 (R207). -/
def execAslZpx (b : Byte) (s : State) : StepOutcome := .next (shiftMemory .asl (.zpx b) s)

/-- ASL absolute, 0x0E (R207). -/
def execAslAbs (w : Addr) (s : State) : StepOutcome := .next (shiftMemory .asl (.abs w) s)

/-- ASL absolute,X, 0x1E (R207). -/
def execAslAbx (w : Addr) (s : State) : StepOutcome := .next (shiftMemory .asl (.abx w) s)

/-- LSR accumulator, 0x4A (R208). -/
def execLsrAcc (s : State) : StepOutcome := .next (shiftA .lsr s)

/-- LSR zero-page, 0x46 (R208). -/
def execLsrZp (b : Byte) (s : State) : StepOutcome := .next (shiftMemory .lsr (.zp b) s)

/-- LSR zero-page,X, 0x56 (R208). -/
def execLsrZpx (b : Byte) (s : State) : StepOutcome := .next (shiftMemory .lsr (.zpx b) s)

/-- LSR absolute, 0x4E (R208). -/
def execLsrAbs (w : Addr) (s : State) : StepOutcome := .next (shiftMemory .lsr (.abs w) s)

/-- LSR absolute,X, 0x5E (R208). -/
def execLsrAbx (w : Addr) (s : State) : StepOutcome := .next (shiftMemory .lsr (.abx w) s)

/-- ROL accumulator, 0x2A (R209). -/
def execRolAcc (s : State) : StepOutcome := .next (shiftA .rol s)

/-- ROL zero-page, 0x26 (R209). -/
def execRolZp (b : Byte) (s : State) : StepOutcome := .next (shiftMemory .rol (.zp b) s)

/-- ROL zero-page,X, 0x36 (R209). -/
def execRolZpx (b : Byte) (s : State) : StepOutcome := .next (shiftMemory .rol (.zpx b) s)

/-- ROL absolute, 0x2E (R209). -/
def execRolAbs (w : Addr) (s : State) : StepOutcome := .next (shiftMemory .rol (.abs w) s)

/-- ROL absolute,X, 0x3E (R209). -/
def execRolAbx (w : Addr) (s : State) : StepOutcome := .next (shiftMemory .rol (.abx w) s)

/-- ROR accumulator, 0x6A (R210). -/
def execRorAcc (s : State) : StepOutcome := .next (shiftA .ror s)

/-- ROR zero-page, 0x66 (R210). -/
def execRorZp (b : Byte) (s : State) : StepOutcome := .next (shiftMemory .ror (.zp b) s)

/-- ROR zero-page,X, 0x76 (R210). -/
def execRorZpx (b : Byte) (s : State) : StepOutcome := .next (shiftMemory .ror (.zpx b) s)

/-- ROR absolute, 0x6E (R210). -/
def execRorAbs (w : Addr) (s : State) : StepOutcome := .next (shiftMemory .ror (.abs w) s)

/-- ROR absolute,X, 0x7E (R210). -/
def execRorAbx (w : Addr) (s : State) : StepOutcome := .next (shiftMemory .ror (.abx w) s)

end Sys2Proof.Machine
end

