-- ==== Sys2Proof/Machine/System.lean ====
section
/-! DEFINITION. The meanings of the stack, flag and system instructions (45_stack_flag_system.md, R240 to R260). BRK and RTI are the shared
operations of Machine/Ops.lean. -/

namespace Sys2Proof.Machine

/-- A pull into A with Z and N (R242). -/
def pullA (s : State) : State :=
  let got := pull s
  loadA got.1 got.2

/-- A pull into X with Z and N (R244). -/
def pullX (s : State) : State :=
  let got := pull s
  loadX got.1 got.2

/-- A pull into Y with Z and N (R246). -/
def pullY (s : State) : State :=
  let got := pull s
  loadY got.1 got.2

/-- PLP: P from the stack with bit 5 forced to 1 (R252). -/
def pullStatus (s : State) : State :=
  let got := pull s
  got.2.setP (statusFrom got.1)

/-- One flag written (R253 to R258, R247). -/
def writeFlag (f : Flag) (v : Bool) (s : State) : State := s.setP (putFlag f v s.p)

/-- PHA, 0x48 (R241). -/
def execPha (s : State) : StepOutcome := .next (push s.a s)

/-- PLA, 0x68 (R242). -/
def execPla (s : State) : StepOutcome := .next (pullA s)

/-- PHX, 0xDA (R243). -/
def execPhx (s : State) : StepOutcome := .next (push s.x s)

/-- PLX, 0xFA (R244). -/
def execPlx (s : State) : StepOutcome := .next (pullX s)

/-- PHY, 0x5A (R245). -/
def execPhy (s : State) : StepOutcome := .next (push s.y s)

/-- PLY, 0x7A (R246). -/
def execPly (s : State) : StepOutcome := .next (pullY s)

/-- PHP, 0x08 (R251). -/
def execPhp (s : State) : StepOutcome := .next (push (s.p ||| 0x30) s)

/-- PLP, 0x28 (R252). -/
def execPlp (s : State) : StepOutcome := .next (pullStatus s)

/-- CLC, 0x18 (R253). -/
def execClc (s : State) : StepOutcome := .next (writeFlag .c false s)

/-- SEC, 0x38 (R254). -/
def execSec (s : State) : StepOutcome := .next (writeFlag .c true s)

/-- CLI, 0x58 (R255). -/
def execCli (s : State) : StepOutcome := .next (writeFlag .i false s)

/-- SEI, 0x78 (R256). -/
def execSei (s : State) : StepOutcome := .next (writeFlag .i true s)

/-- CLD, 0xD8 (R257). -/
def execCld (s : State) : StepOutcome := .next (writeFlag .d false s)

/-- SED, 0xF8 (R258). -/
def execSed (s : State) : StepOutcome := .next (writeFlag .d true s)

/-- CLV, 0xB8 (R247). -/
def execClv (s : State) : StepOutcome := .next (writeFlag .v false s)

/-- NOP, 0xEA (R248). -/
def execNop (s : State) : StepOutcome := .next (s)

/-- BRK, 0x00 (R259). -/
def execBrk (s : State) : StepOutcome := .next (softwareInterrupt s)

/-- RTI, 0x40 (R260). -/
def execRti (s : State) : StepOutcome := .next (returnFromInterrupt s)

end Sys2Proof.Machine
end

