-- ==== Sys2Proof/Machine/Undefined.lean ====
section
/-! DEFINITION. The 81 undefined opcode slots (R97): each runs the software interrupt "with no difference at all from opcode 0x00" (R261). -/

namespace Sys2Proof.Machine

/-- Undefined slot 0x02 (R261). -/
def execUndef02 (s : State) : StepOutcome := .next (softwareInterrupt s)

/-- Undefined slot 0x03 (R261). -/
def execUndef03 (s : State) : StepOutcome := .next (softwareInterrupt s)

/-- Undefined slot 0x07 (R261). -/
def execUndef07 (s : State) : StepOutcome := .next (softwareInterrupt s)

/-- Undefined slot 0x0B (R261). -/
def execUndef0B (s : State) : StepOutcome := .next (softwareInterrupt s)

/-- Undefined slot 0x0F (R261). -/
def execUndef0F (s : State) : StepOutcome := .next (softwareInterrupt s)

/-- Undefined slot 0x13 (R261). -/
def execUndef13 (s : State) : StepOutcome := .next (softwareInterrupt s)

/-- Undefined slot 0x17 (R261). -/
def execUndef17 (s : State) : StepOutcome := .next (softwareInterrupt s)

/-- Undefined slot 0x1B (R261). -/
def execUndef1B (s : State) : StepOutcome := .next (softwareInterrupt s)

/-- Undefined slot 0x1F (R261). -/
def execUndef1F (s : State) : StepOutcome := .next (softwareInterrupt s)

/-- Undefined slot 0x22 (R261). -/
def execUndef22 (s : State) : StepOutcome := .next (softwareInterrupt s)

/-- Undefined slot 0x23 (R261). -/
def execUndef23 (s : State) : StepOutcome := .next (softwareInterrupt s)

/-- Undefined slot 0x27 (R261). -/
def execUndef27 (s : State) : StepOutcome := .next (softwareInterrupt s)

/-- Undefined slot 0x2B (R261). -/
def execUndef2B (s : State) : StepOutcome := .next (softwareInterrupt s)

/-- Undefined slot 0x2F (R261). -/
def execUndef2F (s : State) : StepOutcome := .next (softwareInterrupt s)

/-- Undefined slot 0x33 (R261). -/
def execUndef33 (s : State) : StepOutcome := .next (softwareInterrupt s)

/-- Undefined slot 0x34 (R261). -/
def execUndef34 (s : State) : StepOutcome := .next (softwareInterrupt s)

/-- Undefined slot 0x37 (R261). -/
def execUndef37 (s : State) : StepOutcome := .next (softwareInterrupt s)

/-- Undefined slot 0x3B (R261). -/
def execUndef3B (s : State) : StepOutcome := .next (softwareInterrupt s)

/-- Undefined slot 0x3C (R261). -/
def execUndef3C (s : State) : StepOutcome := .next (softwareInterrupt s)

/-- Undefined slot 0x3F (R261). -/
def execUndef3F (s : State) : StepOutcome := .next (softwareInterrupt s)

/-- Undefined slot 0x42 (R261). -/
def execUndef42 (s : State) : StepOutcome := .next (softwareInterrupt s)

/-- Undefined slot 0x43 (R261). -/
def execUndef43 (s : State) : StepOutcome := .next (softwareInterrupt s)

/-- Undefined slot 0x44 (R261). -/
def execUndef44 (s : State) : StepOutcome := .next (softwareInterrupt s)

/-- Undefined slot 0x47 (R261). -/
def execUndef47 (s : State) : StepOutcome := .next (softwareInterrupt s)

/-- Undefined slot 0x4B (R261). -/
def execUndef4B (s : State) : StepOutcome := .next (softwareInterrupt s)

/-- Undefined slot 0x4F (R261). -/
def execUndef4F (s : State) : StepOutcome := .next (softwareInterrupt s)

/-- Undefined slot 0x53 (R261). -/
def execUndef53 (s : State) : StepOutcome := .next (softwareInterrupt s)

/-- Undefined slot 0x54 (R261). -/
def execUndef54 (s : State) : StepOutcome := .next (softwareInterrupt s)

/-- Undefined slot 0x57 (R261). -/
def execUndef57 (s : State) : StepOutcome := .next (softwareInterrupt s)

/-- Undefined slot 0x5B (R261). -/
def execUndef5B (s : State) : StepOutcome := .next (softwareInterrupt s)

/-- Undefined slot 0x5C (R261). -/
def execUndef5C (s : State) : StepOutcome := .next (softwareInterrupt s)

/-- Undefined slot 0x5F (R261). -/
def execUndef5F (s : State) : StepOutcome := .next (softwareInterrupt s)

/-- Undefined slot 0x62 (R261). -/
def execUndef62 (s : State) : StepOutcome := .next (softwareInterrupt s)

/-- Undefined slot 0x63 (R261). -/
def execUndef63 (s : State) : StepOutcome := .next (softwareInterrupt s)

/-- Undefined slot 0x67 (R261). -/
def execUndef67 (s : State) : StepOutcome := .next (softwareInterrupt s)

/-- Undefined slot 0x6B (R261). -/
def execUndef6B (s : State) : StepOutcome := .next (softwareInterrupt s)

/-- Undefined slot 0x6F (R261). -/
def execUndef6F (s : State) : StepOutcome := .next (softwareInterrupt s)

/-- Undefined slot 0x73 (R261). -/
def execUndef73 (s : State) : StepOutcome := .next (softwareInterrupt s)

/-- Undefined slot 0x77 (R261). -/
def execUndef77 (s : State) : StepOutcome := .next (softwareInterrupt s)

/-- Undefined slot 0x7B (R261). -/
def execUndef7B (s : State) : StepOutcome := .next (softwareInterrupt s)

/-- Undefined slot 0x7F (R261). -/
def execUndef7F (s : State) : StepOutcome := .next (softwareInterrupt s)

/-- Undefined slot 0x82 (R261). -/
def execUndef82 (s : State) : StepOutcome := .next (softwareInterrupt s)

/-- Undefined slot 0x83 (R261). -/
def execUndef83 (s : State) : StepOutcome := .next (softwareInterrupt s)

/-- Undefined slot 0x87 (R261). -/
def execUndef87 (s : State) : StepOutcome := .next (softwareInterrupt s)

/-- Undefined slot 0x89 (R261). -/
def execUndef89 (s : State) : StepOutcome := .next (softwareInterrupt s)

/-- Undefined slot 0x8B (R261). -/
def execUndef8B (s : State) : StepOutcome := .next (softwareInterrupt s)

/-- Undefined slot 0x8F (R261). -/
def execUndef8F (s : State) : StepOutcome := .next (softwareInterrupt s)

/-- Undefined slot 0x93 (R261). -/
def execUndef93 (s : State) : StepOutcome := .next (softwareInterrupt s)

/-- Undefined slot 0x97 (R261). -/
def execUndef97 (s : State) : StepOutcome := .next (softwareInterrupt s)

/-- Undefined slot 0x9B (R261). -/
def execUndef9B (s : State) : StepOutcome := .next (softwareInterrupt s)

/-- Undefined slot 0x9F (R261). -/
def execUndef9F (s : State) : StepOutcome := .next (softwareInterrupt s)

/-- Undefined slot 0xA3 (R261). -/
def execUndefA3 (s : State) : StepOutcome := .next (softwareInterrupt s)

/-- Undefined slot 0xA7 (R261). -/
def execUndefA7 (s : State) : StepOutcome := .next (softwareInterrupt s)

/-- Undefined slot 0xAB (R261). -/
def execUndefAB (s : State) : StepOutcome := .next (softwareInterrupt s)

/-- Undefined slot 0xAF (R261). -/
def execUndefAF (s : State) : StepOutcome := .next (softwareInterrupt s)

/-- Undefined slot 0xB3 (R261). -/
def execUndefB3 (s : State) : StepOutcome := .next (softwareInterrupt s)

/-- Undefined slot 0xB7 (R261). -/
def execUndefB7 (s : State) : StepOutcome := .next (softwareInterrupt s)

/-- Undefined slot 0xBB (R261). -/
def execUndefBB (s : State) : StepOutcome := .next (softwareInterrupt s)

/-- Undefined slot 0xBF (R261). -/
def execUndefBF (s : State) : StepOutcome := .next (softwareInterrupt s)

/-- Undefined slot 0xC2 (R261). -/
def execUndefC2 (s : State) : StepOutcome := .next (softwareInterrupt s)

/-- Undefined slot 0xC3 (R261). -/
def execUndefC3 (s : State) : StepOutcome := .next (softwareInterrupt s)

/-- Undefined slot 0xC7 (R261). -/
def execUndefC7 (s : State) : StepOutcome := .next (softwareInterrupt s)

/-- Undefined slot 0xCB (R261). -/
def execUndefCB (s : State) : StepOutcome := .next (softwareInterrupt s)

/-- Undefined slot 0xCF (R261). -/
def execUndefCF (s : State) : StepOutcome := .next (softwareInterrupt s)

/-- Undefined slot 0xD3 (R261). -/
def execUndefD3 (s : State) : StepOutcome := .next (softwareInterrupt s)

/-- Undefined slot 0xD4 (R261). -/
def execUndefD4 (s : State) : StepOutcome := .next (softwareInterrupt s)

/-- Undefined slot 0xD7 (R261). -/
def execUndefD7 (s : State) : StepOutcome := .next (softwareInterrupt s)

/-- Undefined slot 0xDB (R261). -/
def execUndefDB (s : State) : StepOutcome := .next (softwareInterrupt s)

/-- Undefined slot 0xDC (R261). -/
def execUndefDC (s : State) : StepOutcome := .next (softwareInterrupt s)

/-- Undefined slot 0xDF (R261). -/
def execUndefDF (s : State) : StepOutcome := .next (softwareInterrupt s)

/-- Undefined slot 0xE2 (R261). -/
def execUndefE2 (s : State) : StepOutcome := .next (softwareInterrupt s)

/-- Undefined slot 0xE3 (R261). -/
def execUndefE3 (s : State) : StepOutcome := .next (softwareInterrupt s)

/-- Undefined slot 0xE7 (R261). -/
def execUndefE7 (s : State) : StepOutcome := .next (softwareInterrupt s)

/-- Undefined slot 0xEB (R261). -/
def execUndefEB (s : State) : StepOutcome := .next (softwareInterrupt s)

/-- Undefined slot 0xEF (R261). -/
def execUndefEF (s : State) : StepOutcome := .next (softwareInterrupt s)

/-- Undefined slot 0xF3 (R261). -/
def execUndefF3 (s : State) : StepOutcome := .next (softwareInterrupt s)

/-- Undefined slot 0xF4 (R261). -/
def execUndefF4 (s : State) : StepOutcome := .next (softwareInterrupt s)

/-- Undefined slot 0xF7 (R261). -/
def execUndefF7 (s : State) : StepOutcome := .next (softwareInterrupt s)

/-- Undefined slot 0xFB (R261). -/
def execUndefFB (s : State) : StepOutcome := .next (softwareInterrupt s)

/-- Undefined slot 0xFC (R261). -/
def execUndefFC (s : State) : StepOutcome := .next (softwareInterrupt s)

/-- Undefined slot 0xFF (R261). -/
def execUndefFF (s : State) : StepOutcome := .next (softwareInterrupt s)

end Sys2Proof.Machine
end

