-- ==== Sys2Proof/Machine/Dispatch.lean ====
section
/-! DEFINITION. One arm per constructor of Instr, each one direct call of the instruction's meaning. -/

namespace Sys2Proof.Machine

/-- The operation of an instruction, on the state after its bytes were fetched (R120). -/
def exec (i : Instr) (s : State) : Host.Outcome State Fault Refusal :=
  match i with
  -- Load, store, transfer (41_load_store_transfer.md)
  | .ldaImm b => Sys2Proof.Machine.execLdaImm b s
  | .ldaZp b => Sys2Proof.Machine.execLdaZp b s
  | .ldaZpx b => Sys2Proof.Machine.execLdaZpx b s
  | .ldaAbs w => Sys2Proof.Machine.execLdaAbs w s
  | .ldaAbx w => Sys2Proof.Machine.execLdaAbx w s
  | .ldaAby w => Sys2Proof.Machine.execLdaAby w s
  | .ldaIzx b => Sys2Proof.Machine.execLdaIzx b s
  | .ldaIzy b => Sys2Proof.Machine.execLdaIzy b s
  | .ldaIzp b => Sys2Proof.Machine.execLdaIzp b s
  | .ldxImm b => Sys2Proof.Machine.execLdxImm b s
  | .ldxZp b => Sys2Proof.Machine.execLdxZp b s
  | .ldxZpy b => Sys2Proof.Machine.execLdxZpy b s
  | .ldxAbs w => Sys2Proof.Machine.execLdxAbs w s
  | .ldxAby w => Sys2Proof.Machine.execLdxAby w s
  | .ldyImm b => Sys2Proof.Machine.execLdyImm b s
  | .ldyZp b => Sys2Proof.Machine.execLdyZp b s
  | .ldyZpx b => Sys2Proof.Machine.execLdyZpx b s
  | .ldyAbs w => Sys2Proof.Machine.execLdyAbs w s
  | .ldyAbx w => Sys2Proof.Machine.execLdyAbx w s
  | .staZp b => Sys2Proof.Machine.execStaZp b s
  | .staZpx b => Sys2Proof.Machine.execStaZpx b s
  | .staAbs w => Sys2Proof.Machine.execStaAbs w s
  | .staAbx w => Sys2Proof.Machine.execStaAbx w s
  | .staAby w => Sys2Proof.Machine.execStaAby w s
  | .staIzx b => Sys2Proof.Machine.execStaIzx b s
  | .staIzy b => Sys2Proof.Machine.execStaIzy b s
  | .staIzp b => Sys2Proof.Machine.execStaIzp b s
  | .stxZp b => Sys2Proof.Machine.execStxZp b s
  | .stxZpy b => Sys2Proof.Machine.execStxZpy b s
  | .stxAbs w => Sys2Proof.Machine.execStxAbs w s
  | .styZp b => Sys2Proof.Machine.execStyZp b s
  | .styZpx b => Sys2Proof.Machine.execStyZpx b s
  | .styAbs w => Sys2Proof.Machine.execStyAbs w s
  | .stzZp b => Sys2Proof.Machine.execStzZp b s
  | .stzZpx b => Sys2Proof.Machine.execStzZpx b s
  | .stzAbs w => Sys2Proof.Machine.execStzAbs w s
  | .stzAbx w => Sys2Proof.Machine.execStzAbx w s
  | .tax => Sys2Proof.Machine.execTax s
  | .tay => Sys2Proof.Machine.execTay s
  | .txa => Sys2Proof.Machine.execTxa s
  | .tya => Sys2Proof.Machine.execTya s
  | .tsx => Sys2Proof.Machine.execTsx s
  | .txs => Sys2Proof.Machine.execTxs s
  -- Arithmetic, compare, increment, decrement (42_arithmetic.md)
  | .adcImm b => Sys2Proof.Machine.execAdcImm b s
  | .adcZp b => Sys2Proof.Machine.execAdcZp b s
  | .adcZpx b => Sys2Proof.Machine.execAdcZpx b s
  | .adcAbs w => Sys2Proof.Machine.execAdcAbs w s
  | .adcAbx w => Sys2Proof.Machine.execAdcAbx w s
  | .adcAby w => Sys2Proof.Machine.execAdcAby w s
  | .adcIzx b => Sys2Proof.Machine.execAdcIzx b s
  | .adcIzy b => Sys2Proof.Machine.execAdcIzy b s
  | .adcIzp b => Sys2Proof.Machine.execAdcIzp b s
  | .sbcImm b => Sys2Proof.Machine.execSbcImm b s
  | .sbcZp b => Sys2Proof.Machine.execSbcZp b s
  | .sbcZpx b => Sys2Proof.Machine.execSbcZpx b s
  | .sbcAbs w => Sys2Proof.Machine.execSbcAbs w s
  | .sbcAbx w => Sys2Proof.Machine.execSbcAbx w s
  | .sbcAby w => Sys2Proof.Machine.execSbcAby w s
  | .sbcIzx b => Sys2Proof.Machine.execSbcIzx b s
  | .sbcIzy b => Sys2Proof.Machine.execSbcIzy b s
  | .sbcIzp b => Sys2Proof.Machine.execSbcIzp b s
  | .cmpImm b => Sys2Proof.Machine.execCmpImm b s
  | .cmpZp b => Sys2Proof.Machine.execCmpZp b s
  | .cmpZpx b => Sys2Proof.Machine.execCmpZpx b s
  | .cmpAbs w => Sys2Proof.Machine.execCmpAbs w s
  | .cmpAbx w => Sys2Proof.Machine.execCmpAbx w s
  | .cmpAby w => Sys2Proof.Machine.execCmpAby w s
  | .cmpIzx b => Sys2Proof.Machine.execCmpIzx b s
  | .cmpIzy b => Sys2Proof.Machine.execCmpIzy b s
  | .cmpIzp b => Sys2Proof.Machine.execCmpIzp b s
  | .cpxImm b => Sys2Proof.Machine.execCpxImm b s
  | .cpxZp b => Sys2Proof.Machine.execCpxZp b s
  | .cpxAbs w => Sys2Proof.Machine.execCpxAbs w s
  | .cpyImm b => Sys2Proof.Machine.execCpyImm b s
  | .cpyZp b => Sys2Proof.Machine.execCpyZp b s
  | .cpyAbs w => Sys2Proof.Machine.execCpyAbs w s
  | .incAcc => Sys2Proof.Machine.execIncAcc s
  | .incZp b => Sys2Proof.Machine.execIncZp b s
  | .incZpx b => Sys2Proof.Machine.execIncZpx b s
  | .incAbs w => Sys2Proof.Machine.execIncAbs w s
  | .incAbx w => Sys2Proof.Machine.execIncAbx w s
  | .decAcc => Sys2Proof.Machine.execDecAcc s
  | .decZp b => Sys2Proof.Machine.execDecZp b s
  | .decZpx b => Sys2Proof.Machine.execDecZpx b s
  | .decAbs w => Sys2Proof.Machine.execDecAbs w s
  | .decAbx w => Sys2Proof.Machine.execDecAbx w s
  | .inx => Sys2Proof.Machine.execInx s
  | .iny => Sys2Proof.Machine.execIny s
  | .dex => Sys2Proof.Machine.execDex s
  | .dey => Sys2Proof.Machine.execDey s
  -- Logic, bit test, shift, rotate (43_logic_shift_bit.md)
  | .andImm b => Sys2Proof.Machine.execAndImm b s
  | .andZp b => Sys2Proof.Machine.execAndZp b s
  | .andZpx b => Sys2Proof.Machine.execAndZpx b s
  | .andAbs w => Sys2Proof.Machine.execAndAbs w s
  | .andAbx w => Sys2Proof.Machine.execAndAbx w s
  | .andAby w => Sys2Proof.Machine.execAndAby w s
  | .andIzx b => Sys2Proof.Machine.execAndIzx b s
  | .andIzy b => Sys2Proof.Machine.execAndIzy b s
  | .andIzp b => Sys2Proof.Machine.execAndIzp b s
  | .oraImm b => Sys2Proof.Machine.execOraImm b s
  | .oraZp b => Sys2Proof.Machine.execOraZp b s
  | .oraZpx b => Sys2Proof.Machine.execOraZpx b s
  | .oraAbs w => Sys2Proof.Machine.execOraAbs w s
  | .oraAbx w => Sys2Proof.Machine.execOraAbx w s
  | .oraAby w => Sys2Proof.Machine.execOraAby w s
  | .oraIzx b => Sys2Proof.Machine.execOraIzx b s
  | .oraIzy b => Sys2Proof.Machine.execOraIzy b s
  | .oraIzp b => Sys2Proof.Machine.execOraIzp b s
  | .eorImm b => Sys2Proof.Machine.execEorImm b s
  | .eorZp b => Sys2Proof.Machine.execEorZp b s
  | .eorZpx b => Sys2Proof.Machine.execEorZpx b s
  | .eorAbs w => Sys2Proof.Machine.execEorAbs w s
  | .eorAbx w => Sys2Proof.Machine.execEorAbx w s
  | .eorAby w => Sys2Proof.Machine.execEorAby w s
  | .eorIzx b => Sys2Proof.Machine.execEorIzx b s
  | .eorIzy b => Sys2Proof.Machine.execEorIzy b s
  | .eorIzp b => Sys2Proof.Machine.execEorIzp b s
  | .bitZp b => Sys2Proof.Machine.execBitZp b s
  | .bitAbs w => Sys2Proof.Machine.execBitAbs w s
  | .trbZp b => Sys2Proof.Machine.execTrbZp b s
  | .trbAbs w => Sys2Proof.Machine.execTrbAbs w s
  | .tsbZp b => Sys2Proof.Machine.execTsbZp b s
  | .tsbAbs w => Sys2Proof.Machine.execTsbAbs w s
  | .aslAcc => Sys2Proof.Machine.execAslAcc s
  | .aslZp b => Sys2Proof.Machine.execAslZp b s
  | .aslZpx b => Sys2Proof.Machine.execAslZpx b s
  | .aslAbs w => Sys2Proof.Machine.execAslAbs w s
  | .aslAbx w => Sys2Proof.Machine.execAslAbx w s
  | .lsrAcc => Sys2Proof.Machine.execLsrAcc s
  | .lsrZp b => Sys2Proof.Machine.execLsrZp b s
  | .lsrZpx b => Sys2Proof.Machine.execLsrZpx b s
  | .lsrAbs w => Sys2Proof.Machine.execLsrAbs w s
  | .lsrAbx w => Sys2Proof.Machine.execLsrAbx w s
  | .rolAcc => Sys2Proof.Machine.execRolAcc s
  | .rolZp b => Sys2Proof.Machine.execRolZp b s
  | .rolZpx b => Sys2Proof.Machine.execRolZpx b s
  | .rolAbs w => Sys2Proof.Machine.execRolAbs w s
  | .rolAbx w => Sys2Proof.Machine.execRolAbx w s
  | .rorAcc => Sys2Proof.Machine.execRorAcc s
  | .rorZp b => Sys2Proof.Machine.execRorZp b s
  | .rorZpx b => Sys2Proof.Machine.execRorZpx b s
  | .rorAbs w => Sys2Proof.Machine.execRorAbs w s
  | .rorAbx w => Sys2Proof.Machine.execRorAbx w s
  -- Branches, jumps, subroutines (44_control_flow.md)
  | .bpl d => Sys2Proof.Machine.execBpl d s
  | .bmi d => Sys2Proof.Machine.execBmi d s
  | .bvc d => Sys2Proof.Machine.execBvc d s
  | .bvs d => Sys2Proof.Machine.execBvs d s
  | .bcc d => Sys2Proof.Machine.execBcc d s
  | .bcs d => Sys2Proof.Machine.execBcs d s
  | .bne d => Sys2Proof.Machine.execBne d s
  | .beq d => Sys2Proof.Machine.execBeq d s
  | .bra d => Sys2Proof.Machine.execBra d s
  | .jmpAbs w => Sys2Proof.Machine.execJmpAbs w s
  | .jmpInd w => Sys2Proof.Machine.execJmpInd w s
  | .jmpIax w => Sys2Proof.Machine.execJmpIax w s
  | .jsr w => Sys2Proof.Machine.execJsr w s
  | .rts => Sys2Proof.Machine.execRts s
  -- Stack, flags, system (45_stack_flag_system.md)
  | .pha => Sys2Proof.Machine.execPha s
  | .pla => Sys2Proof.Machine.execPla s
  | .phx => Sys2Proof.Machine.execPhx s
  | .plx => Sys2Proof.Machine.execPlx s
  | .phy => Sys2Proof.Machine.execPhy s
  | .ply => Sys2Proof.Machine.execPly s
  | .php => Sys2Proof.Machine.execPhp s
  | .plp => Sys2Proof.Machine.execPlp s
  | .clc => Sys2Proof.Machine.execClc s
  | .sec => Sys2Proof.Machine.execSec s
  | .cli => Sys2Proof.Machine.execCli s
  | .sei => Sys2Proof.Machine.execSei s
  | .cld => Sys2Proof.Machine.execCld s
  | .sed => Sys2Proof.Machine.execSed s
  | .clv => Sys2Proof.Machine.execClv s
  | .nop => Sys2Proof.Machine.execNop s
  | .brk => Sys2Proof.Machine.execBrk s
  | .rti => Sys2Proof.Machine.execRti s
  -- Undefined opcode slots (30_encoding.md R97, 45_stack_flag_system.md R261)
  | .undef02 => Sys2Proof.Machine.execUndef02 s
  | .undef03 => Sys2Proof.Machine.execUndef03 s
  | .undef07 => Sys2Proof.Machine.execUndef07 s
  | .undef0B => Sys2Proof.Machine.execUndef0B s
  | .undef0F => Sys2Proof.Machine.execUndef0F s
  | .undef13 => Sys2Proof.Machine.execUndef13 s
  | .undef17 => Sys2Proof.Machine.execUndef17 s
  | .undef1B => Sys2Proof.Machine.execUndef1B s
  | .undef1F => Sys2Proof.Machine.execUndef1F s
  | .undef22 => Sys2Proof.Machine.execUndef22 s
  | .undef23 => Sys2Proof.Machine.execUndef23 s
  | .undef27 => Sys2Proof.Machine.execUndef27 s
  | .undef2B => Sys2Proof.Machine.execUndef2B s
  | .undef2F => Sys2Proof.Machine.execUndef2F s
  | .undef33 => Sys2Proof.Machine.execUndef33 s
  | .undef34 => Sys2Proof.Machine.execUndef34 s
  | .undef37 => Sys2Proof.Machine.execUndef37 s
  | .undef3B => Sys2Proof.Machine.execUndef3B s
  | .undef3C => Sys2Proof.Machine.execUndef3C s
  | .undef3F => Sys2Proof.Machine.execUndef3F s
  | .undef42 => Sys2Proof.Machine.execUndef42 s
  | .undef43 => Sys2Proof.Machine.execUndef43 s
  | .undef44 => Sys2Proof.Machine.execUndef44 s
  | .undef47 => Sys2Proof.Machine.execUndef47 s
  | .undef4B => Sys2Proof.Machine.execUndef4B s
  | .undef4F => Sys2Proof.Machine.execUndef4F s
  | .undef53 => Sys2Proof.Machine.execUndef53 s
  | .undef54 => Sys2Proof.Machine.execUndef54 s
  | .undef57 => Sys2Proof.Machine.execUndef57 s
  | .undef5B => Sys2Proof.Machine.execUndef5B s
  | .undef5C => Sys2Proof.Machine.execUndef5C s
  | .undef5F => Sys2Proof.Machine.execUndef5F s
  | .undef62 => Sys2Proof.Machine.execUndef62 s
  | .undef63 => Sys2Proof.Machine.execUndef63 s
  | .undef67 => Sys2Proof.Machine.execUndef67 s
  | .undef6B => Sys2Proof.Machine.execUndef6B s
  | .undef6F => Sys2Proof.Machine.execUndef6F s
  | .undef73 => Sys2Proof.Machine.execUndef73 s
  | .undef77 => Sys2Proof.Machine.execUndef77 s
  | .undef7B => Sys2Proof.Machine.execUndef7B s
  | .undef7F => Sys2Proof.Machine.execUndef7F s
  | .undef82 => Sys2Proof.Machine.execUndef82 s
  | .undef83 => Sys2Proof.Machine.execUndef83 s
  | .undef87 => Sys2Proof.Machine.execUndef87 s
  | .undef89 => Sys2Proof.Machine.execUndef89 s
  | .undef8B => Sys2Proof.Machine.execUndef8B s
  | .undef8F => Sys2Proof.Machine.execUndef8F s
  | .undef93 => Sys2Proof.Machine.execUndef93 s
  | .undef97 => Sys2Proof.Machine.execUndef97 s
  | .undef9B => Sys2Proof.Machine.execUndef9B s
  | .undef9F => Sys2Proof.Machine.execUndef9F s
  | .undefA3 => Sys2Proof.Machine.execUndefA3 s
  | .undefA7 => Sys2Proof.Machine.execUndefA7 s
  | .undefAB => Sys2Proof.Machine.execUndefAB s
  | .undefAF => Sys2Proof.Machine.execUndefAF s
  | .undefB3 => Sys2Proof.Machine.execUndefB3 s
  | .undefB7 => Sys2Proof.Machine.execUndefB7 s
  | .undefBB => Sys2Proof.Machine.execUndefBB s
  | .undefBF => Sys2Proof.Machine.execUndefBF s
  | .undefC2 => Sys2Proof.Machine.execUndefC2 s
  | .undefC3 => Sys2Proof.Machine.execUndefC3 s
  | .undefC7 => Sys2Proof.Machine.execUndefC7 s
  | .undefCB => Sys2Proof.Machine.execUndefCB s
  | .undefCF => Sys2Proof.Machine.execUndefCF s
  | .undefD3 => Sys2Proof.Machine.execUndefD3 s
  | .undefD4 => Sys2Proof.Machine.execUndefD4 s
  | .undefD7 => Sys2Proof.Machine.execUndefD7 s
  | .undefDB => Sys2Proof.Machine.execUndefDB s
  | .undefDC => Sys2Proof.Machine.execUndefDC s
  | .undefDF => Sys2Proof.Machine.execUndefDF s
  | .undefE2 => Sys2Proof.Machine.execUndefE2 s
  | .undefE3 => Sys2Proof.Machine.execUndefE3 s
  | .undefE7 => Sys2Proof.Machine.execUndefE7 s
  | .undefEB => Sys2Proof.Machine.execUndefEB s
  | .undefEF => Sys2Proof.Machine.execUndefEF s
  | .undefF3 => Sys2Proof.Machine.execUndefF3 s
  | .undefF4 => Sys2Proof.Machine.execUndefF4 s
  | .undefF7 => Sys2Proof.Machine.execUndefF7 s
  | .undefFB => Sys2Proof.Machine.execUndefFB s
  | .undefFC => Sys2Proof.Machine.execUndefFC s
  | .undefFF => Sys2Proof.Machine.execUndefFF s

end Sys2Proof.Machine
end

