-- ==== Sys2Proof/Machine/Fetch.lean ====
section
/-! DEFINITION. Fetching an instruction: every byte is one Bus read at PC, PC moving on by one each time (R21, R50, R120, R130 to R143), and
placing an instruction's bytes where the fetch reads them. -/

namespace Sys2Proof.Machine

/-- One byte at PC, and PC past it, modulo 65536 (R21). -/
def fetchByte (s : State) : Byte × State :=
  let got := busRead s.pc s
  (got.1, got.2.setPc (got.2.pc + 1))

/-- The opcode byte, then the operand bytes its table entry calls for (R93, R120); afterwards PC is the address of the next instruction. -/
def fetch (s : State) : Instr × State :=
  let op := fetchByte s
  match opcodeEntry op.1 with
  | .one i => (i, op.2)
  | .two f =>
    let b := fetchByte op.2
    (f b.1, b.2)
  | .three f =>
    let lo := fetchByte op.2
    let hi := fetchByte lo.2
    (f (addrOf lo.1 hi.1), hi.2)

/-- Takes out of the device table every region that matches one of the three addresses from `addr` upward. -/
def withoutRegionsAt (addr : Addr) (rs : List Region) : List Region :=
  rs.filter (fun r => !(r.covers addr || r.covers (addr + 1) || r.covers (addr + 2)))

/-- The agenda with an instruction as its first turn. -/
def instructionFirst (turns : List Turn) : List Turn :=
  match turns with
  | .host op :: rest => .instruction :: .host op :: rest
  | turns => turns

/-- The three bytes of a table word placed directly in `Mem` at PC, with no device answering there and the CPU's turn next (log 11). -/
def placeFetchWord (nbits w : Nat) (s : State) : State :=
  let s := loadImage s.pc (tableWordBytes nbits w) s
  (s.setRegions (withoutRegionsAt s.pc s.regions)).setAgenda (instructionFirst s.agenda)

end Sys2Proof.Machine
end

