-- ==== Sys2Proof/Machine/InstructionStep.lean ====
section
/-! DEFINITION. One instruction, from its fetch to its boundary (R120). -/

namespace Sys2Proof.Machine

/-- One iteration of the fetch, decode, execute loop (R120): fetch, the instruction's operation, then the instruction boundary with the
instruction's cycles (R123) and byte length (R121). -/
def instructionStep (s : State) : Host.Outcome State Fault Refusal :=
  let got := fetch s
  match exec got.1 got.2 with
  | .next t => .next (boundary (cyclesOf got.1 got.2) got.1.len t)
  | .fault r => .fault r
  | .refused r => .refused r

end Sys2Proof.Machine
end

