-- ==== Sys2Proof/Machine/Step.lean ====
section
/-! DEFINITION. One step of the machine. -/

namespace Sys2Proof.Machine

/-- One step: the agenda's next turn, or the next instruction when the agenda is empty (R9; log 9). -/
def step (s : State) : Host.Outcome State Fault Refusal :=
  match s.agenda with
  | [] => instructionStep s
  | .instruction :: rest => instructionStep (s.setAgenda rest)
  | .host op :: rest => .next (runHostOp op (s.setAgenda rest))

/-- The state with the instruction of a table word where `step` fetches next (log 11). -/
def State.withFetchWord (s : State) (nbits w : Nat) : State := placeFetchWord nbits w s

end Sys2Proof.Machine
end

