-- ==== Sys2Proof/Machine/Execute.lean ====
section
/-! DEFINITION. The host's entry point `execute(cycle_budget)` (R122). -/

namespace Sys2Proof.Machine

/-- The cycles the next instruction will cost (R123). -/
def nextCycles (s : State) : Nat := cyclesOf (fetch s).1 (fetch s).2

/-- "while budget > 0": one instruction step after another, each subtracting its cycles, at most `fuel` of them (R122). -/
def executeLoop : Nat → Int → State → Host.Outcome State Fault Refusal
  | 0, _, s => .next s
  | fuel + 1, budget, s =>
    if budget > 0 then
      match instructionStep s with
      | .next t => executeLoop fuel (budget - nextCycles s) t
      | .fault r => .fault r
      | .refused r => .refused r
    else .next s

/-- `execute(cycle_budget)` (R122). Every instruction costs at least one cycle (R127), so a fuel of the budget itself never runs out before
the budget does (log 17). -/
def execute (budget : Int) (s : State) : Host.Outcome State Fault Refusal := executeLoop budget.toNat budget s

end Sys2Proof.Machine
end

