-- ==== Sys2Proof/Safety.lean ====
section
/-! DEFINITION. What the statements are written in: the invariant every step keeps, what device callbacks may change, the flags an
instruction writes, its frame, and the encoding tables of the spec's family files as rows. -/

namespace Sys2Proof.Machine

/-- A region the boot sequence can produce in a machine with `n` timer instances: a timer's callback names an instance that exists. -/
abbrev Region.wf (n : Nat) (r : Region) : Prop :=
  ∀ i, (r.reader = some (.timer i) ∨ r.writer = some (.timer i)) → i < n

/-- Undefined slots 0x02 to 0x53 (R97), with the opcode byte of each. -/
def undefinedLow : List (Instr × Byte) :=
  [(Instr.undef02, 0x02#8), (Instr.undef03, 0x03#8), (Instr.undef07, 0x07#8), (Instr.undef0B, 0x0B#8), (Instr.undef0F, 0x0F#8),
   (Instr.undef13, 0x13#8), (Instr.undef17, 0x17#8), (Instr.undef1B, 0x1B#8), (Instr.undef1F, 0x1F#8), (Instr.undef22, 0x22#8),
   (Instr.undef23, 0x23#8), (Instr.undef27, 0x27#8), (Instr.undef2B, 0x2B#8), (Instr.undef2F, 0x2F#8), (Instr.undef33, 0x33#8),
   (Instr.undef34, 0x34#8), (Instr.undef37, 0x37#8), (Instr.undef3B, 0x3B#8), (Instr.undef3C, 0x3C#8), (Instr.undef3F, 0x3F#8),
   (Instr.undef42, 0x42#8), (Instr.undef43, 0x43#8), (Instr.undef44, 0x44#8), (Instr.undef47, 0x47#8), (Instr.undef4B, 0x4B#8),
   (Instr.undef4F, 0x4F#8), (Instr.undef53, 0x53#8)]

/-- Undefined slots 0x54 to 0xAB (R97), with the opcode byte of each. -/
def undefinedMid : List (Instr × Byte) :=
  [(Instr.undef54, 0x54#8), (Instr.undef57, 0x57#8), (Instr.undef5B, 0x5B#8), (Instr.undef5C, 0x5C#8), (Instr.undef5F, 0x5F#8),
   (Instr.undef62, 0x62#8), (Instr.undef63, 0x63#8), (Instr.undef67, 0x67#8), (Instr.undef6B, 0x6B#8), (Instr.undef6F, 0x6F#8),
   (Instr.undef73, 0x73#8), (Instr.undef77, 0x77#8), (Instr.undef7B, 0x7B#8), (Instr.undef7F, 0x7F#8), (Instr.undef82, 0x82#8),
   (Instr.undef83, 0x83#8), (Instr.undef87, 0x87#8), (Instr.undef89, 0x89#8), (Instr.undef8B, 0x8B#8), (Instr.undef8F, 0x8F#8),
   (Instr.undef93, 0x93#8), (Instr.undef97, 0x97#8), (Instr.undef9B, 0x9B#8), (Instr.undef9F, 0x9F#8), (Instr.undefA3, 0xA3#8),
   (Instr.undefA7, 0xA7#8), (Instr.undefAB, 0xAB#8)]

/-- Undefined slots 0xAF to 0xFF (R97), with the opcode byte of each. -/
def undefinedHigh : List (Instr × Byte) :=
  [(Instr.undefAF, 0xAF#8), (Instr.undefB3, 0xB3#8), (Instr.undefB7, 0xB7#8), (Instr.undefBB, 0xBB#8), (Instr.undefBF, 0xBF#8),
   (Instr.undefC2, 0xC2#8), (Instr.undefC3, 0xC3#8), (Instr.undefC7, 0xC7#8), (Instr.undefCB, 0xCB#8), (Instr.undefCF, 0xCF#8),
   (Instr.undefD3, 0xD3#8), (Instr.undefD4, 0xD4#8), (Instr.undefD7, 0xD7#8), (Instr.undefDB, 0xDB#8), (Instr.undefDC, 0xDC#8),
   (Instr.undefDF, 0xDF#8), (Instr.undefE2, 0xE2#8), (Instr.undefE3, 0xE3#8), (Instr.undefE7, 0xE7#8), (Instr.undefEB, 0xEB#8),
   (Instr.undefEF, 0xEF#8), (Instr.undefF3, 0xF3#8), (Instr.undefF4, 0xF4#8), (Instr.undefF7, 0xF7#8), (Instr.undefFB, 0xFB#8),
   (Instr.undefFC, 0xFC#8), (Instr.undefFF, 0xFF#8)]

/-- The 81 undefined slots, with the opcode byte of each (R97). -/
def undefinedSlots : List (Instr × Byte) := undefinedLow ++ undefinedMid ++ undefinedHigh

/-- What the spec asks of the parameters of a machine: every base value is at least 1 (R127) and an undefined slot's is BRK's (R97), the
decimal functions meet the source's two vectors (R183, R186), and the flag-clear masks are over IFR bits 0 to 6 (R331). -/
structure WellSupplied (q : Params) : Prop where
  positive : ∀ op, 1 ≤ baseCycles q op
  slots : ∀ row ∈ undefinedSlots, baseCycles q row.2 = baseCycles q 0x00
  addVector : decAdc q 0x09 0x01 false = (0x10, false)
  subVector : decSbc q 0x00 0x01 true = (0x99, false)
  readMasks : ∀ r, (readClears q r).getLsbD 7 = false
  writeMasks : ∀ r, (writeClears q r).getLsbD 7 = false

/-- The invariant of the machine. -/
structure Inv (s : State) : Prop where
  /-- Memory is in canonical form (R51). -/
  memory : s.mem.wf
  /-- The unused bit of P is 1 (R24). -/
  unused : getFlag .u s.p = true
  /-- The countdown is inactive or between 1 and 8 (R31). -/
  delay : s.nmiDelay ≤ Config.delayedNmiStart
  /-- The device table holds at most `MaxDevices` regions (R7, R56). -/
  table : s.regions.length ≤ Config.maxDevices
  /-- Bit 7 of every stored IER is 0 (R323). -/
  enables : ∀ t ∈ s.timers, t.ier.getLsbD 7 = false
  /-- The machine's parameters are what the spec asks of them. -/
  parameters : WellSupplied s.params

/-- `t` differs from `s` at most in what the callbacks of devices may change (R62, R348): the pending latches can become set, the countdown
can be started, B can be cleared, timer instances and the environment's answers can move on. Registers, the other flags, memory, the
read-only marks, the device table, the agenda and the parameters are the same. -/
structure OnlyDevices (s t : State) : Prop where
  a : t.a = s.a
  x : t.x = s.x
  y : t.y = s.y
  sp : t.sp = s.sp
  pc : t.pc = s.pc
  flags : ∀ f, f ≠ Flag.b → getFlag f t.p = getFlag f s.p
  breakFlag : getFlag .b t.p = true → getFlag .b s.p = true
  irq : s.irqPending = true → t.irqPending = true
  nmi : s.nmiPending = true → t.nmiPending = true
  delay : t.nmiDelay = s.nmiDelay ∨ t.nmiDelay = Config.delayedNmiStart
  mem : t.mem = s.mem
  readOnly : t.readOnly = s.readOnly
  regions : t.regions = s.regions
  instances : t.timers.length = s.timers.length
  agenda : t.agenda = s.agenda
  params : t.params = s.params

/-- A run of `k` steps that neither faults nor is refused. -/
def RunsTo (k : Nat) (s t : State) : Prop := Sys2Proof.core.run k s = .next t

/-- No region of the device table matches the address (R54). -/
abbrev Unmatched (s : State) (addr : Addr) : Prop := ∀ r ∈ s.regions, Region.covers addr r = false

/-- Plain RAM: no region matches and the byte is not read-only (R59 point 4). -/
abbrev PlainRam (s : State) (addr : Addr) : Prop := Unmatched s addr ∧ s.isReadOnly addr = false

/-- Two status words agree but for the named flags, which have the named values in the second. -/
def FlagsAfter (old new : Byte) (written : List (Flag × Bool)) : Prop :=
  (∀ w ∈ written, getFlag w.1 new = w.2) ∧ ∀ f, f ∉ written.map Prod.fst → getFlag f new = getFlag f old

/-- The flags `SetZN(v)` writes (R26, R160). -/
def zn (v : Byte) : List (Flag × Bool) := [(.z, decide (v.toNat = 0)), (.n, decide (v.toNat ≥ 128))]

/-- The registers an instruction can write (R20, R21, R22); P is told flag by flag. -/
inductive Reg where
  | a | x | y | sp
  deriving DecidableEq, Repr

/-- THE FRAME of an instruction that writes the registers `regs` and the flags `written` and, besides, PC: every other register and flag is
as it was, and everything else too, but for what a device's callback may do in a Bus access (R62): clear B and latch a
request (R283, R284), start the countdown (R287), move its own state. With no device registered none of that happens either. Memory is
told beside it, byte by byte. -/
structure Frame (s t : State) (regs : List Reg) (written : List Flag) : Prop where
  a : Reg.a ∉ regs → t.a = s.a
  x : Reg.x ∉ regs → t.x = s.x
  y : Reg.y ∉ regs → t.y = s.y
  sp : Reg.sp ∉ regs → t.sp = s.sp
  flags : ∀ f, f ∉ written → f ≠ .b → getFlag f t.p = getFlag f s.p
  breakFlag : Flag.b ∉ written → getFlag .b t.p = true → getFlag .b s.p = true
  irq : s.irqPending = true → t.irqPending = true
  nmi : s.nmiPending = true → t.nmiPending = true
  delay : t.nmiDelay = s.nmiDelay ∨ t.nmiDelay = 8
  readOnly : t.readOnly = s.readOnly
  regions : t.regions = s.regions
  instances : t.timers.length = s.timers.length
  agenda : t.agenda = s.agenda
  params : t.params = s.params
  quietBreak : s.regions = [] → Flag.b ∉ written → getFlag .b t.p = getFlag .b s.p
  quiet : s.regions = [] → t.irqPending = s.irqPending ∧ t.nmiPending = s.nmiPending ∧ t.nmiDelay = s.nmiDelay ∧
    t.timers = s.timers ∧ t.script = s.script ∧ t.answered = s.answered

/-- The location of S + k modulo 256 in the stack page (R22, R25): k = 0 is where the next push stores, k = 1 where the next pull
reads, k = 255 is S - 1. -/
def stackSlot (sp : Byte) (k : Nat) : Addr := BitVec.ofNat 16 (0x0100 + (sp.toNat + k) % 256)

/-- THE INTERRUPT ENTRY of R259, R280 and R281, access by access: `ret` pushed high byte first, the status image pushed, I set, PC from the
vector. The software interrupt sets B before it pushes the image. -/
def EntersInterrupt (setsBreak : Bool) (ret vector : Addr) (s t : State) : Prop :=
  let w1 := busWrite (stackSlot s.sp 0) (highByte ret) s
  let w2 := busWrite (stackSlot s.sp 255) (lowByte ret) w1
  ∃ image, FlagsAfter w2.p image (if setsBreak then [(Flag.b, true)] else []) ∧
    let w3 := busWrite (stackSlot s.sp 254) image (w2.setP image)
    ∃ status, FlagsAfter w3.p status [(Flag.i, true)] ∧
      let lo := busRead vector (w3.setP status)
      let hi := busRead (vector + 1) lo.2
      t = { hi.2 with sp := s.sp - 3, pc := addrOf lo.1 hi.1 }

/-- Both nibbles are decimal digits. -/
abbrev IsBcd (v : Byte) : Prop := v.toNat / 16 ≤ 9 ∧ v.toNat % 16 ≤ 9

/-- The number a BCD byte stands for, `dec` of R183. -/
def bcdValue (v : Byte) : Nat := v.toNat / 16 * 10 + v.toNat % 16

/-- The result of a one-bit move of `v` with the old carry `c`, as a number (R207 to R210). -/
def movedBits (k : Shift) (v c : Nat) : Nat :=
  match k with
  | .asl => 2 * v % 256
  | .lsr => v / 2
  | .rol => 2 * v % 256 + c
  | .ror => v / 2 + 128 * c

/-- The bit a one-bit move of `v` sends to carry (R207 to R210). -/
def movedOut (k : Shift) (v : Nat) : Bool :=
  match k with
  | .asl | .rol => decide (v ≥ 128)
  | .lsr | .ror => decide (v % 2 = 1)

/-- The instruction bytes `bytes` encode the instruction `i`, in the addressing mode, length and (default) base cycles a row of the spec's
tables gives it (R91, R96, R126; log 5). -/
def EncodedAs (i : Instr) (bytes : List Byte) (mode : Mode) (len base : Nat) : Prop :=
  decode bytes = .ok (i, []) ∧ encode i = bytes ∧ i.mode = mode ∧ i.len = len ∧ bytes.length = len ∧ defaultBaseCycles i.opcode = base

/-- One row of an encodings table whose instruction has a memory operand: the instruction and its operand from the operand bytes (`b1`, or
`lo` and `hi`, R90), opcode byte, mode, length, base cycles. -/
structure MemForm where
  instr   : Byte → Byte → Instr
  operand : Byte → Byte → Operand
  op      : Byte
  mode    : Mode
  len     : Nat
  base    : Nat

namespace MemForm

/-- A two-byte row (format F2). -/
def ofByte (k : Byte → Instr) (o : Byte → Operand) (mode : Mode) (op : Byte) (base : Nat) : MemForm :=
  { instr := fun b _ => k b, operand := fun b _ => o b, op := op, mode := mode, len := 2, base := base }

/-- A three-byte row (format F3), low byte first. -/
def ofWord (k : Addr → Instr) (o : Addr → Operand) (mode : Mode) (op : Byte) (base : Nat) : MemForm :=
  { instr := fun lo hi => k (addrOf lo hi), operand := fun lo hi => o (addrOf lo hi), op := op, mode := mode, len := 3, base := base }

def zp (k : Byte → Instr) : Byte → Nat → MemForm := ofByte k .zp .zp
def zpx (k : Byte → Instr) : Byte → Nat → MemForm := ofByte k .zpx .zpx
def zpy (k : Byte → Instr) : Byte → Nat → MemForm := ofByte k .zpy .zpy
def abs (k : Addr → Instr) : Byte → Nat → MemForm := ofWord k .abs .abs
def abx (k : Addr → Instr) : Byte → Nat → MemForm := ofWord k .abx .abx
def aby (k : Addr → Instr) : Byte → Nat → MemForm := ofWord k .aby .aby
def izx (k : Byte → Instr) : Byte → Nat → MemForm := ofByte k .izx .izx
def izy (k : Byte → Instr) : Byte → Nat → MemForm := ofByte k .izy .izy
def izp (k : Byte → Instr) : Byte → Nat → MemForm := ofByte k .izp .izp

/-- The row's encoding, for given operand bytes. -/
def Encoded (f : MemForm) (b1 b2 : Byte) : Prop :=
  EncodedAs (f.instr b1 b2) (f.op :: [b1, b2].take (f.len - 1)) f.mode f.len f.base

end MemForm

/-- One row of an encodings table whose instruction reads `M`: from memory, or the immediate byte. -/
structure ReadForm where
  instr  : Byte → Byte → Instr
  source : Byte → Byte → Source
  op     : Byte
  mode   : Mode
  len    : Nat
  base   : Nat

/-- An immediate row. -/
def ReadForm.imm (k : Byte → Instr) (op : Byte) (base : Nat) : ReadForm :=
  { instr := fun b _ => k b, source := fun b _ => .imm b, op := op, mode := .imm, len := 2, base := base }

/-- A memory row as a reading row. -/
def MemForm.reads (f : MemForm) : ReadForm :=
  { instr := f.instr, source := fun lo hi => .mem (f.operand lo hi), op := f.op, mode := f.mode, len := f.len, base := f.base }

/-- The row's encoding, for given operand bytes. -/
def ReadForm.Encoded (f : ReadForm) (b1 b2 : Byte) : Prop :=
  EncodedAs (f.instr b1 b2) (f.op :: [b1, b2].take (f.len - 1)) f.mode f.len f.base

/-- LDA (R161). -/
def ldaForms : List ReadForm :=
  ReadForm.imm Instr.ldaImm 0xA9 2 :: List.map MemForm.reads
    [MemForm.zp Instr.ldaZp 0xA5 3, MemForm.zpx Instr.ldaZpx 0xB5 4, MemForm.abs Instr.ldaAbs 0xAD 4,
     MemForm.abx Instr.ldaAbx 0xBD 4, MemForm.aby Instr.ldaAby 0xB9 4, MemForm.izx Instr.ldaIzx 0xA1 6,
     MemForm.izy Instr.ldaIzy 0xB1 5, MemForm.izp Instr.ldaIzp 0xB2 5]

/-- LDX (R162). -/
def ldxForms : List ReadForm :=
  ReadForm.imm Instr.ldxImm 0xA2 2 :: List.map MemForm.reads
    [MemForm.zp Instr.ldxZp 0xA6 3, MemForm.zpy Instr.ldxZpy 0xB6 4, MemForm.abs Instr.ldxAbs 0xAE 4,
     MemForm.aby Instr.ldxAby 0xBE 4]

/-- LDY (R163). -/
def ldyForms : List ReadForm :=
  ReadForm.imm Instr.ldyImm 0xA0 2 :: List.map MemForm.reads
    [MemForm.zp Instr.ldyZp 0xA4 3, MemForm.zpx Instr.ldyZpx 0xB4 4, MemForm.abs Instr.ldyAbs 0xAC 4,
     MemForm.abx Instr.ldyAbx 0xBC 4]

/-- STA (R164). -/
def staForms : List MemForm :=
  [MemForm.zp Instr.staZp 0x85 3, MemForm.zpx Instr.staZpx 0x95 4, MemForm.abs Instr.staAbs 0x8D 4,
   MemForm.abx Instr.staAbx 0x9D 5, MemForm.aby Instr.staAby 0x99 5, MemForm.izx Instr.staIzx 0x81 6,
   MemForm.izy Instr.staIzy 0x91 6, MemForm.izp Instr.staIzp 0x92 5]

/-- STX (R165). -/
def stxForms : List MemForm :=
  [MemForm.zp Instr.stxZp 0x86 3, MemForm.zpy Instr.stxZpy 0x96 4, MemForm.abs Instr.stxAbs 0x8E 4]

/-- STY (R166). -/
def styForms : List MemForm :=
  [MemForm.zp Instr.styZp 0x84 3, MemForm.zpx Instr.styZpx 0x94 4, MemForm.abs Instr.styAbs 0x8C 4]

/-- STZ (R167). -/
def stzForms : List MemForm :=
  [MemForm.zp Instr.stzZp 0x64 3, MemForm.zpx Instr.stzZpx 0x74 4, MemForm.abs Instr.stzAbs 0x9C 4,
   MemForm.abx Instr.stzAbx 0x9E 5]

/-- ADC (R181). -/
def adcForms : List ReadForm :=
  ReadForm.imm Instr.adcImm 0x69 2 :: List.map MemForm.reads
    [MemForm.zp Instr.adcZp 0x65 3, MemForm.zpx Instr.adcZpx 0x75 4, MemForm.abs Instr.adcAbs 0x6D 4,
     MemForm.abx Instr.adcAbx 0x7D 4, MemForm.aby Instr.adcAby 0x79 4, MemForm.izx Instr.adcIzx 0x61 6,
     MemForm.izy Instr.adcIzy 0x71 5, MemForm.izp Instr.adcIzp 0x72 5]

/-- SBC (R184). -/
def sbcForms : List ReadForm :=
  ReadForm.imm Instr.sbcImm 0xE9 2 :: List.map MemForm.reads
    [MemForm.zp Instr.sbcZp 0xE5 3, MemForm.zpx Instr.sbcZpx 0xF5 4, MemForm.abs Instr.sbcAbs 0xED 4,
     MemForm.abx Instr.sbcAbx 0xFD 4, MemForm.aby Instr.sbcAby 0xF9 4, MemForm.izx Instr.sbcIzx 0xE1 6,
     MemForm.izy Instr.sbcIzy 0xF1 5, MemForm.izp Instr.sbcIzp 0xF2 5]

/-- CMP (R187). -/
def cmpForms : List ReadForm :=
  ReadForm.imm Instr.cmpImm 0xC9 2 :: List.map MemForm.reads
    [MemForm.zp Instr.cmpZp 0xC5 3, MemForm.zpx Instr.cmpZpx 0xD5 4, MemForm.abs Instr.cmpAbs 0xCD 4,
     MemForm.abx Instr.cmpAbx 0xDD 4, MemForm.aby Instr.cmpAby 0xD9 4, MemForm.izx Instr.cmpIzx 0xC1 6,
     MemForm.izy Instr.cmpIzy 0xD1 5, MemForm.izp Instr.cmpIzp 0xD2 5]

/-- CPX (R188). -/
def cpxForms : List ReadForm :=
  ReadForm.imm Instr.cpxImm 0xE0 2 :: List.map MemForm.reads
    [MemForm.zp Instr.cpxZp 0xE4 3, MemForm.abs Instr.cpxAbs 0xEC 4]

/-- CPY (R189). -/
def cpyForms : List ReadForm :=
  ReadForm.imm Instr.cpyImm 0xC0 2 :: List.map MemForm.reads
    [MemForm.zp Instr.cpyZp 0xC4 3, MemForm.abs Instr.cpyAbs 0xCC 4]

/-- INC, memory forms (R190). -/
def incForms : List MemForm :=
  [MemForm.zp Instr.incZp 0xE6 5, MemForm.zpx Instr.incZpx 0xF6 6, MemForm.abs Instr.incAbs 0xEE 6,
   MemForm.abx Instr.incAbx 0xFE 7]

/-- DEC, memory forms (R191). -/
def decForms : List MemForm :=
  [MemForm.zp Instr.decZp 0xC6 5, MemForm.zpx Instr.decZpx 0xD6 6, MemForm.abs Instr.decAbs 0xCE 6,
   MemForm.abx Instr.decAbx 0xDE 7]

/-- AND (R201). -/
def andForms : List ReadForm :=
  ReadForm.imm Instr.andImm 0x29 2 :: List.map MemForm.reads
    [MemForm.zp Instr.andZp 0x25 3, MemForm.zpx Instr.andZpx 0x35 4, MemForm.abs Instr.andAbs 0x2D 4,
     MemForm.abx Instr.andAbx 0x3D 4, MemForm.aby Instr.andAby 0x39 4, MemForm.izx Instr.andIzx 0x21 6,
     MemForm.izy Instr.andIzy 0x31 5, MemForm.izp Instr.andIzp 0x32 5]

/-- ORA (R202). -/
def oraForms : List ReadForm :=
  ReadForm.imm Instr.oraImm 0x09 2 :: List.map MemForm.reads
    [MemForm.zp Instr.oraZp 0x05 3, MemForm.zpx Instr.oraZpx 0x15 4, MemForm.abs Instr.oraAbs 0x0D 4,
     MemForm.abx Instr.oraAbx 0x1D 4, MemForm.aby Instr.oraAby 0x19 4, MemForm.izx Instr.oraIzx 0x01 6,
     MemForm.izy Instr.oraIzy 0x11 5, MemForm.izp Instr.oraIzp 0x12 5]

/-- EOR (R203). -/
def eorForms : List ReadForm :=
  ReadForm.imm Instr.eorImm 0x49 2 :: List.map MemForm.reads
    [MemForm.zp Instr.eorZp 0x45 3, MemForm.zpx Instr.eorZpx 0x55 4, MemForm.abs Instr.eorAbs 0x4D 4,
     MemForm.abx Instr.eorAbx 0x5D 4, MemForm.aby Instr.eorAby 0x59 4, MemForm.izx Instr.eorIzx 0x41 6,
     MemForm.izy Instr.eorIzy 0x51 5, MemForm.izp Instr.eorIzp 0x52 5]

/-- BIT (R204). -/
def bitForms : List MemForm :=
  [MemForm.zp Instr.bitZp 0x24 3, MemForm.abs Instr.bitAbs 0x2C 4]

/-- TRB (R205). -/
def trbForms : List MemForm :=
  [MemForm.zp Instr.trbZp 0x14 5, MemForm.abs Instr.trbAbs 0x1C 6]

/-- TSB (R206). -/
def tsbForms : List MemForm :=
  [MemForm.zp Instr.tsbZp 0x04 5, MemForm.abs Instr.tsbAbs 0x0C 6]

/-- ASL, memory forms (R207). -/
def aslForms : List MemForm :=
  [MemForm.zp Instr.aslZp 0x06 5, MemForm.zpx Instr.aslZpx 0x16 6, MemForm.abs Instr.aslAbs 0x0E 6,
   MemForm.abx Instr.aslAbx 0x1E 7]

/-- LSR, memory forms (R208). -/
def lsrForms : List MemForm :=
  [MemForm.zp Instr.lsrZp 0x46 5, MemForm.zpx Instr.lsrZpx 0x56 6, MemForm.abs Instr.lsrAbs 0x4E 6,
   MemForm.abx Instr.lsrAbx 0x5E 7]

/-- ROL, memory forms (R209). -/
def rolForms : List MemForm :=
  [MemForm.zp Instr.rolZp 0x26 5, MemForm.zpx Instr.rolZpx 0x36 6, MemForm.abs Instr.rolAbs 0x2E 6,
   MemForm.abx Instr.rolAbx 0x3E 7]

/-- ROR, memory forms (R210). -/
def rorForms : List MemForm :=
  [MemForm.zp Instr.rorZp 0x66 5, MemForm.zpx Instr.rorZpx 0x76 6, MemForm.abs Instr.rorAbs 0x6E 6,
   MemForm.abx Instr.rorAbx 0x7E 7]

/-- The nine branches: instruction, opcode byte, and the flag and value of the condition; none for BRA (R221 to R229). -/
def branchRows : List ((Byte → Instr) × Byte × Option (Flag × Bool)) :=
  [(Instr.bpl, 0x10, some (Flag.n, false)), (Instr.bmi, 0x30, some (Flag.n, true)), (Instr.bvc, 0x50, some (Flag.v, false)),
   (Instr.bvs, 0x70, some (Flag.v, true)), (Instr.bcc, 0x90, some (Flag.c, false)), (Instr.bcs, 0xB0, some (Flag.c, true)),
   (Instr.bne, 0xD0, some (Flag.z, false)), (Instr.beq, 0xF0, some (Flag.z, true)), (Instr.bra, 0x80, none)]

/-- The seven flag instructions: instruction, opcode byte, flag, value (R247, R253 to R258). -/
def flagRows : List (Instr × Byte × Flag × Bool) :=
  [(Instr.clc, 0x18, Flag.c, false), (Instr.sec, 0x38, Flag.c, true), (Instr.cli, 0x58, Flag.i, false),
   (Instr.sei, 0x78, Flag.i, true), (Instr.cld, 0xD8, Flag.d, false), (Instr.sed, 0xF8, Flag.d, true),
   (Instr.clv, 0xB8, Flag.v, false)]

/-- The instructions that read memory, with the register and the flags each writes (R26). -/
def readingFrames : List (List ReadForm × List Reg × List Flag) :=
  [(ldaForms, [Reg.a], [Flag.z, Flag.n]), (ldxForms, [Reg.x], [Flag.z, Flag.n]), (ldyForms, [Reg.y], [Flag.z, Flag.n]),
   (adcForms, [Reg.a], [Flag.c, Flag.z, Flag.v, Flag.n]), (sbcForms, [Reg.a], [Flag.c, Flag.z, Flag.v, Flag.n]),
   (cmpForms, [], [Flag.c, Flag.z, Flag.n]), (cpxForms, [], [Flag.c, Flag.z, Flag.n]),
   (cpyForms, [], [Flag.c, Flag.z, Flag.n]), (andForms, [Reg.a], [Flag.z, Flag.n]),
   (oraForms, [Reg.a], [Flag.z, Flag.n]), (eorForms, [Reg.a], [Flag.z, Flag.n]),
   (List.map MemForm.reads bitForms, [], [Flag.z, Flag.v, Flag.n])]

/-- The instructions that store to their memory operand, with the flags each writes (R26). -/
def storingFrames : List (List MemForm × List Flag) :=
  [(staForms, []), (stxForms, []), (styForms, []), (stzForms, []), (incForms, [Flag.z, Flag.n]), (decForms, [Flag.z, Flag.n]),
   (trbForms, [Flag.z]), (tsbForms, [Flag.z]), (aslForms, [Flag.c, Flag.z, Flag.n]), (lsrForms, [Flag.c, Flag.z, Flag.n]),
   (rolForms, [Flag.c, Flag.z, Flag.n]), (rorForms, [Flag.c, Flag.z, Flag.n])]

/-- All eight flags. -/
def allFlags : List Flag := [Flag.c, Flag.z, Flag.i, Flag.d, Flag.b, Flag.u, Flag.v, Flag.n]

/-- The instructions without an operand in memory that store nothing, with the registers and flags each writes (R26). -/
def impliedFrames : List (Instr × List Reg × List Flag) :=
  [(Instr.tax, [Reg.x], [Flag.z, Flag.n]), (Instr.tay, [Reg.y], [Flag.z, Flag.n]), (Instr.txa, [Reg.a], [Flag.z, Flag.n]),
   (Instr.tya, [Reg.a], [Flag.z, Flag.n]), (Instr.tsx, [Reg.x], [Flag.z, Flag.n]), (Instr.txs, [Reg.sp], []),
   (Instr.incAcc, [Reg.a], [Flag.z, Flag.n]), (Instr.decAcc, [Reg.a], [Flag.z, Flag.n]),
   (Instr.inx, [Reg.x], [Flag.z, Flag.n]), (Instr.iny, [Reg.y], [Flag.z, Flag.n]), (Instr.dex, [Reg.x], [Flag.z, Flag.n]),
   (Instr.dey, [Reg.y], [Flag.z, Flag.n]), (Instr.aslAcc, [Reg.a], [Flag.c, Flag.z, Flag.n]),
   (Instr.lsrAcc, [Reg.a], [Flag.c, Flag.z, Flag.n]), (Instr.rolAcc, [Reg.a], [Flag.c, Flag.z, Flag.n]),
   (Instr.rorAcc, [Reg.a], [Flag.c, Flag.z, Flag.n])]
  ++ [(Instr.clc, [], [Flag.c]), (Instr.sec, [], [Flag.c]), (Instr.cli, [], [Flag.i]), (Instr.sei, [], [Flag.i]),
   (Instr.cld, [], [Flag.d]), (Instr.sed, [], [Flag.d]), (Instr.clv, [], [Flag.v]), (Instr.nop, [], []),
   (Instr.pla, [Reg.a, Reg.sp], [Flag.z, Flag.n]), (Instr.plx, [Reg.x, Reg.sp], [Flag.z, Flag.n]),
   (Instr.ply, [Reg.y, Reg.sp], [Flag.z, Flag.n]), (Instr.plp, [Reg.sp], allFlags), (Instr.rts, [Reg.sp], []),
   (Instr.rti, [Reg.sp], allFlags)]

end Sys2Proof.Machine
end

