-- ==== Sys2Proof/Certificates/Slice0/Obligations.lean ====
section
/-! DEFINITION. The statements about the model, one `Obligations.<Name> : Prop` each. In a statement about `exec i s`, `s` is the state in
which the operation of R120 runs: the instruction's bytes are fetched and PC is the address of the next instruction (R21); the statement
`StepRunsDecodedInstruction` ties `step` to it. The parameters of R8 are data of the state: a statement takes `baseCycles s.params` (log
5), `decAdc s.params` and `decSbc s.params` (log 6), and the flag-clear tables `readClears` and `writeClears` (log 7) as the machine has
them, and holds for all of them; the base cycles of an encodings table are the spec's default (R126, D4). Where a docstring names a
decision D<n> of the spec, the model follows it (log 13); the stack's direction is the decision D10. `busRead` and `busWrite` are one Bus
access each (R57, R58). -/

section

open Sys2Proof Sys2Proof.Machine

/-! ### Encoding -/

/-- Decoding an encoded instruction gives it back, for every instruction and every operand, whatever bytes follow (R90 to R93, R96, R98;
the matrix is the spec's decision D2). -/
def Obligations.DecodeOfEncode : Prop :=
  ∀ (i : Instr) (rest : List Byte), decode (encode i ++ rest) = .ok (i, rest)

/-- Each byte string has one meaning: what decodes to an instruction is that instruction's encoding, followed by the rest. -/
def Obligations.EncodeOfDecode : Prop :=
  ∀ (bytes rest : List Byte) (i : Instr), decode bytes = .ok (i, rest) → bytes = encode i ++ rest

/-- The decoder refuses nothing but a string that ends too early: no opcode byte, or fewer bytes than the mode of its instruction calls for
(R93, R98). -/
def Obligations.DecoderIsTotal : Prop :=
  ∀ op : Byte, ∃ len, 1 ≤ len ∧ len ≤ 3 ∧
    (∀ rest : List Byte, len ≤ rest.length + 1 → ∃ i tail, decode (op :: rest) = .ok (i, tail) ∧ i.opcode = op ∧ i.len = len) ∧
    (∀ rest : List Byte, rest.length + 1 < len → ∃ e, decode (op :: rest) = .error e)

/-- Words of the spec's encodings, written out: one or more of every family (R91, R96, R97). -/
def Obligations.SampleWords : Prop :=
  decode [0xA9, 0x80] = .ok (.ldaImm 0x80, []) ∧ decode [0x8D, 0x00, 0x02] = .ok (.staAbs 0x0200, []) ∧
  decode [0xAA] = .ok (.tax, []) ∧ decode [0x71, 0x40] = .ok (.adcIzy 0x40, []) ∧ decode [0xF2, 0xFF] = .ok (.sbcIzp 0xFF, []) ∧
  decode [0xD9, 0x34, 0x12] = .ok (.cmpAby 0x1234, []) ∧ decode [0x1A] = .ok (.incAcc, []) ∧
  decode [0x41, 0xFE] = .ok (.eorIzx 0xFE, []) ∧ decode [0x24, 0x20] = .ok (.bitZp 0x20, []) ∧
  decode [0x1C, 0xCD, 0xAB] = .ok (.trbAbs 0xABCD, []) ∧ decode [0x3E, 0xFF, 0x00] = .ok (.rolAbx 0x00FF, []) ∧
  decode [0xD0, 0xFD] = .ok (.bne 0xFD, []) ∧ decode [0x7C, 0x00, 0x20] = .ok (.jmpIax 0x2000, []) ∧
  decode [0x20, 0x34, 0x12] = .ok (.jsr 0x1234, []) ∧ decode [0xDA] = .ok (.phx, []) ∧ decode [0x28] = .ok (.plp, []) ∧
  decode [0x78] = .ok (.sei, []) ∧ decode [0x00] = .ok (.brk, []) ∧ decode [0x40] = .ok (.rti, []) ∧
  decode [0xCB] = .ok (.undefCB, [])

/-- Every undefined slot has the table entry of BRK and runs as BRK runs (R261; the slots are those R97 lists). Another table of base cycles
is asked to give the slots BRK's (D3; log 5). -/
def Obligations.UndefinedSlotsRunBrk : Prop :=
  undefinedSlots.length = 81 ∧
  (∀ row ∈ undefinedSlots, EncodedAs row.1 [row.2] .imp 1 (defaultBaseCycles 0x00) ∧
    ∀ s, (∃ t, exec row.1 s = .next t ∧ exec .brk s = .next t) ∧
      (WellSupplied s.params → cyclesOf row.1 s = cyclesOf .brk s)) ∧
  Instr.brk.len = 1 ∧ Instr.brk.mode = .imp ∧ Instr.brk.opcode = 0x00

/-! ### The step -/

/-- When the bytes at PC decode to an instruction and no region covers them, a step runs it: on the state whose PC is past its bytes, then
the instruction boundary with its cycles and length (R120, R121, R123). A turn of the agenda that is an instruction is used up. -/
def Obligations.StepRunsDecodedInstruction : Prop :=
  ∀ (s : State) (i : Instr) (rest : List Byte),
    decode [s.memByte s.pc, s.memByte (s.pc + 1), s.memByte (s.pc + 2)] = .ok (i, rest) →
    (∀ k : Nat, k < i.len → Unmatched s (s.pc + BitVec.ofNat 16 k)) →
    (s.agenda = [] → ∃ t, exec i { s with pc := s.pc + BitVec.ofNat 16 i.len } = .next t ∧
      step s = .next (boundary (cyclesOf i { s with pc := s.pc + BitVec.ofNat 16 i.len }) i.len t)) ∧
    (∀ turns, s.agenda = .instruction :: turns →
      ∃ t, exec i { s with pc := s.pc + BitVec.ofNat 16 i.len, agenda := turns } = .next t ∧
      step s = .next (boundary (cyclesOf i { s with pc := s.pc + BitVec.ofNat 16 i.len, agenda := turns }) i.len t))

/-- Opcode and operand bytes are Bus reads at PC, PC + 1, PC + 2 modulo 65536, as many as the instruction has, and PC ends past them (R21,
R50; that fetches go through the Bus is the spec's decision D7). -/
def Obligations.FetchReadsThroughTheBus : Prop :=
  ∀ s : State,
    let r0 := busRead s.pc s
    let r1 := busRead (s.pc + 1) r0.2
    let r2 := busRead (s.pc + 2) r1.2
    ∃ i, (i.len = 1 ∧ decode [r0.1] = .ok (i, []) ∧ fetch s = (i, { r0.2 with pc := s.pc + 1 })) ∨
      (i.len = 2 ∧ decode [r0.1, r1.1] = .ok (i, []) ∧ fetch s = (i, { r1.2 with pc := s.pc + 2 })) ∨
      (i.len = 3 ∧ decode [r0.1, r1.1, r2.1] = .ok (i, []) ∧ fetch s = (i, { r2.2 with pc := s.pc + 3 }))

/-- No instruction and no step stops: each answers a next state in every state (R120, R270). -/
def Obligations.NothingStops : Prop :=
  (∀ (i : Instr) (s : State), ∃ t, exec i s = .next t) ∧ ∀ s : State, ∃ t, step s = .next t

/-- Every step keeps the invariant: memory canonical, P's unused bit 1 (R24), the countdown at most 8 (R31), at most 32 regions (R56), bit 7
of every IER 0 (R323), the parameters as the spec asks (R8, R127, R183, R186). -/
def Obligations.EveryStepKeepsTheInvariant : Prop :=
  ∀ s t : State, Inv s → step s = .next t → Inv t

/-- The invariant holds of the reset state. -/
def Obligations.ResetMeetsTheInvariant : Prop := Inv State.reset

/-- A read-only byte that no backing region covers survives every instruction with everything that follows it in the step: all stores,
pushes, interrupt services and callbacks (R52, R58, R62, R348). -/
def Obligations.ReadOnlyMemoryIsKept : Prop :=
  ∀ (s t : State) (addr : Addr), s.isReadOnly addr = true → (∀ r ∈ s.regions, r.covers addr = true → r.backs = false) →
    instructionStep s = .next t → t.memByte addr = s.memByte addr ∧ t.isReadOnly addr = true ∧ t.regions = s.regions

/-- A request is a latch (R30, R275): no instruction clears a pending IRQ or NMI; at a boundary a pending IRQ survives while I is set, and
a pending NMI is served whatever I is. Every boundary is the four steps of R120 and R278 in their order: timer updates, countdown, IRQ
service iff the latch is then set and I clear (R279), NMI service iff that latch is then set (R281). So a request raised in the boundary
itself, by a timer's update (R276) or by the countdown reaching zero (R288), is served at that boundary, and with no request nothing is
served: only the timers and the countdown move. The clauses about the countdown rest on the spec's decision D17 (log 10), that of the gate
on D37, and that a timer's request goes through `assert_irq` on D16. -/
def Obligations.RequestsStayPending : Prop :=
  (∀ (i : Instr) (s : State), ∃ t, exec i s = .next t ∧ (s.irqPending = true → t.irqPending = true) ∧
    (s.nmiPending = true → t.nmiPending = true)) ∧
  (∀ (cycles len : Nat) (s : State), s.irqPending = true → getFlag .i s.p = true →
    (boundary cycles len s).irqPending = true) ∧
  (∀ (cycles len : Nat) (s : State), s.nmiPending = true →
    boundary cycles len s = serviceNmi (irqGate (countDown len (updateTimers cycles s)))) ∧
  (∀ (cycles len : Nat) (s : State),
    let u := countDown len (updateTimers cycles s)
    let v := if u.irqPending = true ∧ getFlag .i u.p = false then serviceIrq u else u
    boundary cycles len s = if v.nmiPending = true then serviceNmi v else v) ∧
  (∀ (cycles len : Nat) (s : State), (∃ t ∈ s.timers, (t.update cycles).1 = true) → getFlag .i s.p = false →
    let v := serviceIrq (countDown len (updateTimers cycles s))
    boundary cycles len s = if v.nmiPending = true then serviceNmi v else v) ∧
  (∀ (cycles len : Nat) (s : State), 0 < s.nmiDelay → s.nmiDelay ≤ len →
    boundary cycles len s = serviceNmi (irqGate (countDown len (updateTimers cycles s)))) ∧
  (∀ (cycles len : Nat) (s : State), (∀ t ∈ s.timers, (t.update cycles).1 = false) → s.irqPending = false →
    s.nmiPending = false → (s.nmiDelay = 0 ∨ len < s.nmiDelay) →
    boundary cycles len s =
      { s with timers := s.timers.map (fun t => (t.update cycles).2), nmiDelay := s.nmiDelay - len })

/-- The host's loop (R122): no step on a budget that is not positive; otherwise one step, and the loop again on what the cycles of the
step's instruction (R123) leave, those `step` hands to the boundary; the bound the model puts on the number of steps is never felt,
because every base value is at least 1, in the default table and in any other the spec allows (R127). -/
def Obligations.ExecuteIsTheWhileLoop : Prop :=
  (∀ op : Byte, 1 ≤ defaultBaseCycles op) ∧
  (∀ (budget : Int) (s : State), budget ≤ 0 → execute budget s = .next s) ∧
  (∀ (budget : Int) (s : State), WellSupplied s.params → 0 < budget →
    ∃ u, exec (fetch s).1 (fetch s).2 = .next u ∧
      let cycles := cyclesOf (fetch s).1 (fetch s).2
      let t := boundary cycles (fetch s).1.len u
      instructionStep s = .next t ∧ nextCycles s = cycles ∧ execute budget s = execute (budget - cycles) t)

/-! ### Registers and flags -/

/-- P's layout (R23): the bit and the mask of each flag, and a write of one flag changes that bit alone. -/
def Obligations.StatusLayout : Prop :=
  ∀ row ∈ [(Flag.c, 0, 0x01#8), (Flag.z, 1, 0x02#8), (Flag.i, 2, 0x04#8), (Flag.d, 3, 0x08#8), (Flag.b, 4, 0x10#8),
      (Flag.u, 5, 0x20#8), (Flag.v, 6, 0x40#8), (Flag.n, 7, 0x80#8)],
    ∀ (p : Byte) (v : Bool), getFlag row.1 p = p.getLsbD row.2.1 ∧ getFlag row.1 p = decide (p &&& row.2.2 ≠ 0) ∧
      getFlag row.1 (putFlag row.1 v p) = v ∧ ∀ k, k ≠ row.2.1 → (putFlag row.1 v p).getLsbD k = p.getLsbD k

/-! ### Operands, addresses and cycles -/

/-- The effective address of every memory mode (R132 to R137, R139, R140, R142; the zero-page wraps are the spec's decision D8): zero-page
sums modulo 256, 16-bit sums modulo 65536, page crossing when the high byte changes (R125); the direct modes make no Bus access, the
indirect ones two reads in page zero, low byte first. -/
def Obligations.EffectiveAddresses : Prop :=
  ∀ (s : State) (b : Byte) (w : Addr),
    (∃ ea, resolve (.zp b) s = ⟨ea, false, s⟩ ∧ ea.toNat = b.toNat) ∧
    (∃ ea, resolve (.zpx b) s = ⟨ea, false, s⟩ ∧ ea.toNat = (b.toNat + s.x.toNat) % 256) ∧
    (∃ ea, resolve (.zpy b) s = ⟨ea, false, s⟩ ∧ ea.toNat = (b.toNat + s.y.toNat) % 256) ∧
    (resolve (.abs w) s = ⟨w, false, s⟩) ∧
    (∃ ea, resolve (.abx w) s = ⟨ea, decide (ea.toNat / 256 ≠ w.toNat / 256), s⟩ ∧
      ea.toNat = (w.toNat + s.x.toNat) % 65536) ∧
    (∃ ea, resolve (.aby w) s = ⟨ea, decide (ea.toNat / 256 ≠ w.toNat / 256), s⟩ ∧
      ea.toNat = (w.toNat + s.y.toNat) % 65536) ∧
    (let at0 : Addr := BitVec.ofNat 16 ((b.toNat + s.x.toNat) % 256)
     let at1 : Addr := BitVec.ofNat 16 ((b.toNat + s.x.toNat + 1) % 256)
     let lo := busRead at0 s
     let hi := busRead at1 lo.2
     ∃ ea, resolve (.izx b) s = ⟨ea, false, hi.2⟩ ∧ ea.toNat = 256 * hi.1.toNat + lo.1.toNat) ∧
    (let lo := busRead (BitVec.ofNat 16 b.toNat) s
     let hi := busRead (BitVec.ofNat 16 ((b.toNat + 1) % 256)) lo.2
     (∃ ea, resolve (.izp b) s = ⟨ea, false, hi.2⟩ ∧ ea.toNat = 256 * hi.1.toNat + lo.1.toNat) ∧
     (∃ ea, resolve (.izy b) s = ⟨ea, decide (ea.toNat / 256 ≠ hi.1.toNat), hi.2⟩ ∧
       ea.toNat = (256 * hi.1.toNat + lo.1.toNat + s.y.toNat) % 65536))

/-- The operand access (R144): a reading instruction makes one Bus read of the effective address, a store one Bus write, a
read-modify-write one read and one write. The immediate byte is the operand byte of the fetch (R131; log 12). -/
def Obligations.OperandAccesses : Prop :=
  (∀ (b : Byte) (s : State), readSource (.imm b) s = (b, s)) ∧
  (∀ (o : Operand) (s : State), readSource (.mem o) s = busRead (resolve o s).ea (resolve o s).state) ∧
  (∀ (o : Operand) (v : Byte) (s : State), storeTo o v s = busWrite (resolve o s).ea v (resolve o s).state) ∧
  (∀ (result before after : Byte → Byte → Byte) (o : Operand) (s : State),
    let got := busRead (resolve o s).ea (resolve o s).state
    let w := busWrite (resolve o s).ea (result got.1 got.2.p) (got.2.setP (before got.1 got.2.p))
    modifyMemory result before after o s = { w with p := after got.1 w.p })

/-- The cycles of an instruction (R123, R124, the penalties being the spec's decisions D5 and D6): the machine's base value, one more for
a page crossing in `abx` or `aby` with base 4 or in `izy` with base 5, and for a taken branch one, or two to another page. -/
def Obligations.CyclesOfAnInstruction : Prop :=
  ∀ (i : Instr) (s : State),
    cyclesOf i s = baseCycles s.params i.opcode +
      match i.shape with
      | .memory (.abx w) =>
        if baseCycles s.params i.opcode = 4 ∧ (w.toNat + s.x.toNat) % 65536 / 256 ≠ w.toNat / 256 then 1 else 0
      | .memory (.aby w) =>
        if baseCycles s.params i.opcode = 4 ∧ (w.toNat + s.y.toNat) % 65536 / 256 ≠ w.toNat / 256 then 1 else 0
      | .memory (.izy b) =>
        let lo := busRead (BitVec.ofNat 16 b.toNat) s
        let hi := busRead (BitVec.ofNat 16 ((b.toNat + 1) % 256)) lo.2
        if baseCycles s.params i.opcode = 5 ∧ (256 * hi.1.toNat + lo.1.toNat + s.y.toNat) % 65536 / 256 ≠ hi.1.toNat then 1 else 0
      | .relative c d =>
        if condHolds c s.p = true then
          (if ((s.pc.toNat : Int) + d.toInt) % 65536 / 256 ≠ (s.pc.toNat : Int) / 256 then 2 else 1)
        else 0
      | _ => 0

/-! ### Loads, stores, transfers -/

/-- LDA, LDX, LDY (R161, R162, R163): the encodings, the register loaded from the byte read, Z and N from it, nothing else. -/
def Obligations.LoadInstructions : Prop :=
  (∀ f ∈ ldaForms, ∀ b1 b2, f.Encoded b1 b2 ∧ ∀ s : State,
    let got := readSource (f.source b1 b2) s
    ∃ p', FlagsAfter got.2.p p' (zn got.1) ∧ exec (f.instr b1 b2) s = .next { got.2 with a := got.1, p := p' }) ∧
  (∀ f ∈ ldxForms, ∀ b1 b2, f.Encoded b1 b2 ∧ ∀ s : State,
    let got := readSource (f.source b1 b2) s
    ∃ p', FlagsAfter got.2.p p' (zn got.1) ∧ exec (f.instr b1 b2) s = .next { got.2 with x := got.1, p := p' }) ∧
  (∀ f ∈ ldyForms, ∀ b1 b2, f.Encoded b1 b2 ∧ ∀ s : State,
    let got := readSource (f.source b1 b2) s
    ∃ p', FlagsAfter got.2.p p' (zn got.1) ∧ exec (f.instr b1 b2) s = .next { got.2 with y := got.1, p := p' })

/-- STA, STX, STY, STZ (R164 to R167): the encodings, one Bus write of the register or of zero to the effective address, no flag, and, where
the machine's base value is the encodings table's, never a page-crossing cycle. -/
def Obligations.StoreInstructions : Prop :=
  (∀ f ∈ staForms, ∀ b1 b2, f.Encoded b1 b2 ∧ ∀ s : State,
    let r := resolve (f.operand b1 b2) s
    exec (f.instr b1 b2) s = .next (busWrite r.ea s.a r.state) ∧ (baseCycles s.params f.op = f.base → cyclesOf (f.instr b1 b2) s = f.base)) ∧
  (∀ f ∈ stxForms, ∀ b1 b2, f.Encoded b1 b2 ∧ ∀ s : State,
    let r := resolve (f.operand b1 b2) s
    exec (f.instr b1 b2) s = .next (busWrite r.ea s.x r.state) ∧ (baseCycles s.params f.op = f.base → cyclesOf (f.instr b1 b2) s = f.base)) ∧
  (∀ f ∈ styForms, ∀ b1 b2, f.Encoded b1 b2 ∧ ∀ s : State,
    let r := resolve (f.operand b1 b2) s
    exec (f.instr b1 b2) s = .next (busWrite r.ea s.y r.state) ∧ (baseCycles s.params f.op = f.base → cyclesOf (f.instr b1 b2) s = f.base)) ∧
  (∀ f ∈ stzForms, ∀ b1 b2, f.Encoded b1 b2 ∧ ∀ s : State,
    let r := resolve (f.operand b1 b2) s
    exec (f.instr b1 b2) s = .next (busWrite r.ea 0x00 r.state) ∧ (baseCycles s.params f.op = f.base → cyclesOf (f.instr b1 b2) s = f.base))

/-- TAX, TAY, TXA, TYA, TSX, TXS (R168 to R173): encoding, destination, Z and N from the value moved; TXS writes no flag. -/
def Obligations.TransferInstructions : Prop :=
  (EncodedAs .tax [0xAA] .imp 1 2 ∧ EncodedAs .tay [0xA8] .imp 1 2 ∧ EncodedAs .txa [0x8A] .imp 1 2 ∧
    EncodedAs .tya [0x98] .imp 1 2 ∧ EncodedAs .tsx [0xBA] .imp 1 2 ∧ EncodedAs .txs [0x9A] .imp 1 2) ∧
  ∀ s : State,
    (∃ p', FlagsAfter s.p p' (zn s.a) ∧ exec .tax s = .next { s with x := s.a, p := p' }) ∧
    (∃ p', FlagsAfter s.p p' (zn s.a) ∧ exec .tay s = .next { s with y := s.a, p := p' }) ∧
    (∃ p', FlagsAfter s.p p' (zn s.x) ∧ exec .txa s = .next { s with a := s.x, p := p' }) ∧
    (∃ p', FlagsAfter s.p p' (zn s.y) ∧ exec .tya s = .next { s with a := s.y, p := p' }) ∧
    (∃ p', FlagsAfter s.p p' (zn s.sp) ∧ exec .tsx s = .next { s with x := s.sp, p := p' }) ∧
    exec .txs s = .next { s with sp := s.x }

/-! ### Arithmetic -/

/-- The binary adder (R182): result, carry, and overflow both as the bit formula and as the signed sum out of range. -/
def Obligations.BinaryAdder : Prop :=
  ∀ (a m : Byte) (c : Bool),
    let sum := a.toNat + m.toNat + c.toNat
    let r := (adcBin a m c).result
    let signed : Int := a.toInt + m.toInt + c.toNat
    r.toNat = sum % 256 ∧ (adcBin a m c).carry = decide (sum > 0xFF) ∧
    (adcBin a m c).overflow = decide ((a ^^^ r) &&& (m ^^^ r) &&& 0x80 ≠ 0) ∧
    ((adcBin a m c).overflow = true ↔ a.msb = m.msb ∧ r.msb ≠ a.msb) ∧
    ((adcBin a m c).overflow = true ↔ signed < -128 ∨ 127 < signed)

/-- ADC (R181): with D clear the binary sum of A, M and C; with D set the result and carry of the machine's `dec_adc` (R183; log 6); Z and N
from the result; every form. That in decimal mode V comes from the binary sum, and Z and N from the result, is the spec's decision D20
(R197; log 6). -/
def Obligations.AddWithCarry : Prop :=
  ∀ f ∈ adcForms, ∀ b1 b2, f.Encoded b1 b2 ∧ ∀ s : State,
    let got := readSource (f.source b1 b2) s
    let c := getFlag .c s.p
    let bin := adcBin s.a got.1 c
    let sum := s.a.toNat + got.1.toNat + c.toNat
    let r := if getFlag .d s.p = true then (decAdc s.params s.a got.1 c).1 else BitVec.ofNat 8 (sum % 256)
    let carry := if getFlag .d s.p = true then (decAdc s.params s.a got.1 c).2 else decide (sum > 255)
    ∃ p', FlagsAfter got.2.p p' ([(.c, carry), (.v, bin.overflow)] ++ zn r) ∧
      exec (f.instr b1 b2) s = .next { got.2 with a := r, p := p' }

/-- SBC (R184): with D clear A - M - (1 - C), C set iff no borrow, V iff the signed difference is out of range; with D set the result
and carry of the machine's `dec_sbc` (R186; log 6); Z and N from the result; every form. That in decimal mode V comes from the binary
difference, and Z and N from the result, is the spec's decision D20 (R197; log 6). -/
def Obligations.SubtractWithBorrow : Prop :=
  ∀ f ∈ sbcForms, ∀ b1 b2, f.Encoded b1 b2 ∧ ∀ s : State,
    let got := readSource (f.source b1 b2) s
    let c := getFlag .c s.p
    let borrow := 1 - c.toNat
    let signed : Int := s.a.toInt - got.1.toInt - borrow
    let r := if getFlag .d s.p = true then (decSbc s.params s.a got.1 c).1
      else BitVec.ofInt 8 ((s.a.toNat : Int) - got.1.toNat - borrow)
    let carry := if getFlag .d s.p = true then (decSbc s.params s.a got.1 c).2 else decide (got.1.toNat + borrow ≤ s.a.toNat)
    ∃ p', FlagsAfter got.2.p p' ([(.c, carry), (.v, decide (signed < -128 ∨ 127 < signed))] ++ zn r) ∧
      exec (f.instr b1 b2) s = .next { got.2 with a := r, p := p' }

/-- The default decimal functions meet the source's two vectors and are decimal arithmetic on valid BCD operands; they are the spec's
default (R183, R186, D19; log 6), not the source's. They are what the reset state's machine has, and a machine can have any other pair
(R8). -/
def Obligations.DecimalArithmetic : Prop :=
  defaultDecAdc 0x09 0x01 false = (0x10, false) ∧ defaultDecSbc 0x00 0x01 true = (0x99, false) ∧
  (∀ (a m : Byte) (c : Bool), IsBcd a → IsBcd m →
    (let n := bcdValue a + bcdValue m + c.toNat
     IsBcd (defaultDecAdc a m c).1 ∧ bcdValue (defaultDecAdc a m c).1 = n % 100 ∧ (defaultDecAdc a m c).2 = decide (n ≥ 100)) ∧
    (let n : Int := (bcdValue a : Int) - bcdValue m - (1 - c.toNat)
     IsBcd (defaultDecSbc a m c).1 ∧ (bcdValue (defaultDecSbc a m c).1 : Int) = n % 100 ∧
       (defaultDecSbc a m c).2 = decide (n ≥ 0))) ∧
  decAdc State.reset.params = defaultDecAdc ∧ decSbc State.reset.params = defaultDecSbc ∧
  ∀ f g : DecimalFn, ∃ q : Params, decAdc q = f ∧ decSbc q = g

/-- CMP, CPX, CPY (R187, R188, R189): C is `>=`, Z is equality, N bit 7 of the difference; no register is written; every form. -/
def Obligations.CompareInstructions : Prop :=
  (∀ f ∈ cmpForms, ∀ b1 b2, f.Encoded b1 b2 ∧ ∀ s : State,
    let got := readSource (f.source b1 b2) s
    ∃ p', FlagsAfter got.2.p p' [(.c, decide (s.a.toNat ≥ got.1.toNat)), (.z, decide (s.a.toNat = got.1.toNat)),
        (.n, decide ((s.a.toNat + 256 - got.1.toNat) % 256 ≥ 128))] ∧
      exec (f.instr b1 b2) s = .next { got.2 with p := p' }) ∧
  (∀ f ∈ cpxForms, ∀ b1 b2, f.Encoded b1 b2 ∧ ∀ s : State,
    let got := readSource (f.source b1 b2) s
    ∃ p', FlagsAfter got.2.p p' [(.c, decide (s.x.toNat ≥ got.1.toNat)), (.z, decide (s.x.toNat = got.1.toNat)),
        (.n, decide ((s.x.toNat + 256 - got.1.toNat) % 256 ≥ 128))] ∧
      exec (f.instr b1 b2) s = .next { got.2 with p := p' }) ∧
  (∀ f ∈ cpyForms, ∀ b1 b2, f.Encoded b1 b2 ∧ ∀ s : State,
    let got := readSource (f.source b1 b2) s
    ∃ p', FlagsAfter got.2.p p' [(.c, decide (s.y.toNat ≥ got.1.toNat)), (.z, decide (s.y.toNat = got.1.toNat)),
        (.n, decide ((s.y.toNat + 256 - got.1.toNat) % 256 ≥ 128))] ∧
      exec (f.instr b1 b2) s = .next { got.2 with p := p' })

/-- INC, DEC (R190, R191), INX, INY, DEX, DEY (R192 to R195): plus or minus one modulo 256, Z and N from the result, C and V not written; in
memory one read, one write of the result, then the flags. -/
def Obligations.IncrementAndDecrement : Prop :=
  (∀ f ∈ incForms, ∀ b1 b2, f.Encoded b1 b2 ∧ ∀ s : State,
    let r := resolve (f.operand b1 b2) s
    let got := busRead r.ea r.state
    ∃ v : Byte, v.toNat = (got.1.toNat + 1) % 256 ∧ ∃ p', FlagsAfter (busWrite r.ea v got.2).p p' (zn v) ∧
      exec (f.instr b1 b2) s = .next { busWrite r.ea v got.2 with p := p' }) ∧
  (∀ f ∈ decForms, ∀ b1 b2, f.Encoded b1 b2 ∧ ∀ s : State,
    let r := resolve (f.operand b1 b2) s
    let got := busRead r.ea r.state
    ∃ v : Byte, v.toNat = (got.1.toNat + 255) % 256 ∧ ∃ p', FlagsAfter (busWrite r.ea v got.2).p p' (zn v) ∧
      exec (f.instr b1 b2) s = .next { busWrite r.ea v got.2 with p := p' }) ∧
  (EncodedAs .incAcc [0x1A] .acc 1 2 ∧ EncodedAs .decAcc [0x3A] .acc 1 2 ∧ EncodedAs .inx [0xE8] .imp 1 2 ∧
    EncodedAs .iny [0xC8] .imp 1 2 ∧ EncodedAs .dex [0xCA] .imp 1 2 ∧ EncodedAs .dey [0x88] .imp 1 2) ∧
  ∀ s : State,
    (∃ v : Byte, v.toNat = (s.a.toNat + 1) % 256 ∧ ∃ p', FlagsAfter s.p p' (zn v) ∧
      exec .incAcc s = .next { s with a := v, p := p' }) ∧
    (∃ v : Byte, v.toNat = (s.a.toNat + 255) % 256 ∧ ∃ p', FlagsAfter s.p p' (zn v) ∧
      exec .decAcc s = .next { s with a := v, p := p' }) ∧
    (∃ v : Byte, v.toNat = (s.x.toNat + 1) % 256 ∧ ∃ p', FlagsAfter s.p p' (zn v) ∧
      exec .inx s = .next { s with x := v, p := p' }) ∧
    (∃ v : Byte, v.toNat = (s.y.toNat + 1) % 256 ∧ ∃ p', FlagsAfter s.p p' (zn v) ∧
      exec .iny s = .next { s with y := v, p := p' }) ∧
    (∃ v : Byte, v.toNat = (s.x.toNat + 255) % 256 ∧ ∃ p', FlagsAfter s.p p' (zn v) ∧
      exec .dex s = .next { s with x := v, p := p' }) ∧
    (∃ v : Byte, v.toNat = (s.y.toNat + 255) % 256 ∧ ∃ p', FlagsAfter s.p p' (zn v) ∧
      exec .dey s = .next { s with y := v, p := p' })

/-! ### Logic, bit tests, shifts -/

/-- AND, ORA, EOR (R201, R202, R203): A op M into A, Z and N from it; every form. -/
def Obligations.LogicInstructions : Prop :=
  (∀ f ∈ andForms, ∀ b1 b2, f.Encoded b1 b2 ∧ ∀ s : State,
    let got := readSource (f.source b1 b2) s
    ∃ p', FlagsAfter got.2.p p' (zn (s.a &&& got.1)) ∧
      exec (f.instr b1 b2) s = .next { got.2 with a := s.a &&& got.1, p := p' }) ∧
  (∀ f ∈ oraForms, ∀ b1 b2, f.Encoded b1 b2 ∧ ∀ s : State,
    let got := readSource (f.source b1 b2) s
    ∃ p', FlagsAfter got.2.p p' (zn (s.a ||| got.1)) ∧
      exec (f.instr b1 b2) s = .next { got.2 with a := s.a ||| got.1, p := p' }) ∧
  (∀ f ∈ eorForms, ∀ b1 b2, f.Encoded b1 b2 ∧ ∀ s : State,
    let got := readSource (f.source b1 b2) s
    ∃ p', FlagsAfter got.2.p p' (zn (s.a ^^^ got.1)) ∧
      exec (f.instr b1 b2) s = .next { got.2 with a := s.a ^^^ got.1, p := p' })

/-- BIT (R204): Z from A and M, N and V from bits 7 and 6 of M, A not changed; two forms, and the 65C02's three others are undefined
slots. -/
def Obligations.BitTest : Prop :=
  (∀ f ∈ bitForms, ∀ b1 b2, f.Encoded b1 b2 ∧ ∀ s : State,
    let r := resolve (f.operand b1 b2) s
    let got := busRead r.ea r.state
    ∃ p', FlagsAfter got.2.p p' [(.z, decide ((s.a &&& got.1).toNat = 0)), (.n, decide (got.1.toNat ≥ 128)),
        (.v, decide (got.1.toNat / 64 % 2 = 1))] ∧
      exec (f.instr b1 b2) s = .next { got.2 with p := p' }) ∧
  decode [0x89] = .ok (.undef89, []) ∧ decode [0x34] = .ok (.undef34, []) ∧ decode [0x3C] = .ok (.undef3C, [])

/-- TRB, TSB (R205, R206): one read; Z alone from A and the old byte; one write of M and not A, or of M or A. -/
def Obligations.TestAndChangeBits : Prop :=
  (∀ f ∈ trbForms, ∀ b1 b2, f.Encoded b1 b2 ∧ ∀ s : State,
    let r := resolve (f.operand b1 b2) s
    let got := busRead r.ea r.state
    ∃ p', FlagsAfter got.2.p p' [(.z, decide ((s.a &&& got.1).toNat = 0))] ∧
      exec (f.instr b1 b2) s = .next (busWrite r.ea (got.1 &&& ~~~s.a) (got.2.setP p'))) ∧
  (∀ f ∈ tsbForms, ∀ b1 b2, f.Encoded b1 b2 ∧ ∀ s : State,
    let r := resolve (f.operand b1 b2) s
    let got := busRead r.ea r.state
    ∃ p', FlagsAfter got.2.p p' [(.z, decide ((s.a &&& got.1).toNat = 0))] ∧
      exec (f.instr b1 b2) s = .next (busWrite r.ea (got.1 ||| s.a) (got.2.setP p')))

/-- ASL, LSR, ROL, ROR (R207 to R210), memory and accumulator forms: the bit that leaves to C, the old C into the bit that opens
(rotates), Z and N from the result; in memory one read, the flags, one write. -/
def Obligations.ShiftInstructions : Prop :=
  (∀ row ∈ [(aslForms, Shift.asl), (lsrForms, Shift.lsr), (rolForms, Shift.rol), (rorForms, Shift.ror)],
    ∀ f ∈ row.1, ∀ b1 b2, f.Encoded b1 b2 ∧ ∀ s : State,
      let r := resolve (f.operand b1 b2) s
      let got := busRead r.ea r.state
      ∃ v : Byte, v.toNat = movedBits row.2 got.1.toNat (getFlag .c s.p).toNat ∧
        ∃ p', FlagsAfter got.2.p p' ((.c, movedOut row.2 got.1.toNat) :: zn v) ∧
          exec (f.instr b1 b2) s = .next (busWrite r.ea v (got.2.setP p'))) ∧
  (∀ row ∈ [(Instr.aslAcc, 0x0A#8, Shift.asl), (Instr.lsrAcc, 0x4A#8, Shift.lsr), (Instr.rolAcc, 0x2A#8, Shift.rol),
      (Instr.rorAcc, 0x6A#8, Shift.ror)],
    EncodedAs row.1 [row.2.1] .acc 1 2 ∧ ∀ s : State,
      ∃ v : Byte, v.toNat = movedBits row.2.2 s.a.toNat (getFlag .c s.p).toNat ∧
        ∃ p', FlagsAfter s.p p' ((.c, movedOut row.2.2 s.a.toNat) :: zn v) ∧
          exec row.1 s = .next { s with a := v, p := p' })

/-! ### Control flow -/

/-- The nine branches (R221 to R229): taken on their condition, PC becomes the address of the next instruction plus the signed displacement
modulo 65536; not taken, nothing; the base cycles not taken, one more taken, two more to another page than the next instruction's
(the page compared is the spec's decision D6); no flag. -/
def Obligations.BranchInstructions : Prop :=
  ∀ row ∈ branchRows, ∀ d : Byte, EncodedAs (row.1 d) [row.2.1, d] .rel 2 2 ∧ ∀ s : State,
    let taken := match row.2.2 with
      | some (f, v) => decide (getFlag f s.p = v)
      | none => true
    ∃ target : Addr, (target.toNat : Int) = ((s.pc.toNat : Int) + d.toInt) % 65536 ∧
      exec (row.1 d) s = .next { s with pc := if taken = true then target else s.pc } ∧
      cyclesOf (row.1 d) s = baseCycles s.params row.2.1 +
        if taken = true then (if target.toNat / 256 = s.pc.toNat / 256 then 1 else 2) else 0

/-- JMP (R230): PC from the operand, or from the two bytes at the pointer, whose second address carries into the high byte (R138, R141; the
spec's decision D9). -/
def Obligations.JumpInstructions : Prop :=
  ∀ lo hi : Byte,
    (EncodedAs (.jmpAbs (addrOf lo hi)) [0x4C, lo, hi] .abs 3 3 ∧ EncodedAs (.jmpInd (addrOf lo hi)) [0x6C, lo, hi] .ind 3 5 ∧
      EncodedAs (.jmpIax (addrOf lo hi)) [0x7C, lo, hi] .iax 3 6) ∧
    (addrOf lo hi).toNat = 256 * hi.toNat + lo.toNat ∧
    ∀ s : State,
      exec (.jmpAbs (addrOf lo hi)) s = .next { s with pc := addrOf lo hi } ∧
      (let tlo := busRead (addrOf lo hi) s
       let thi := busRead (addrOf lo hi + 1) tlo.2
       exec (.jmpInd (addrOf lo hi)) s = .next { thi.2 with pc := addrOf tlo.1 thi.1 }) ∧
      (let ptr : Addr := BitVec.ofNat 16 ((256 * hi.toNat + lo.toNat + s.x.toNat) % 65536)
       let tlo := busRead ptr s
       let thi := busRead (ptr + 1) tlo.2
       exec (.jmpIax (addrOf lo hi)) s = .next { thi.2 with pc := addrOf tlo.1 thi.1 })

/-- JSR (R231) and RTS (R232): JSR pushes the address of its own last byte, high byte first, and jumps; RTS pulls low byte, high byte and
adds one. The stack grows downward by the spec's decision D10 (R25). -/
def Obligations.SubroutineInstructions : Prop :=
  (∀ lo hi : Byte, EncodedAs (.jsr (addrOf lo hi)) [0x20, lo, hi] .abs 3 6) ∧ EncodedAs .rts [0x60] .imp 1 6 ∧
  ∀ (s : State) (w : Addr),
    (let w1 := busWrite (stackSlot s.sp 0) (highByte (s.pc - 1)) s
     let w2 := busWrite (stackSlot s.sp 255) (lowByte (s.pc - 1)) w1
     exec (.jsr w) s = .next { w2 with sp := s.sp - 2, pc := w }) ∧
    (let lo := busRead (stackSlot s.sp 1) s
     let hi := busRead (stackSlot s.sp 2) lo.2
     exec .rts s = .next { hi.2 with sp := s.sp + 2, pc := addrOf lo.1 hi.1 + 1 })

/-! ### Stack, flags, software interrupt -/

/-- PHA, PHX, PHY, PLA, PLX, PLY (R241 to R246): one Bus write at 0x0100 + S and S - 1; or S + 1 and one Bus read there, Z and N from the
byte pulled. S wraps modulo 256 (R25; the stack's direction is the spec's decision D10). -/
def Obligations.RegisterPushesAndPulls : Prop :=
  (EncodedAs .pha [0x48] .imp 1 3 ∧ EncodedAs .phx [0xDA] .imp 1 3 ∧ EncodedAs .phy [0x5A] .imp 1 3 ∧
    EncodedAs .pla [0x68] .imp 1 4 ∧ EncodedAs .plx [0xFA] .imp 1 4 ∧ EncodedAs .ply [0x7A] .imp 1 4) ∧
  ∀ s : State,
    exec .pha s = .next { busWrite (stackSlot s.sp 0) s.a s with sp := s.sp - 1 } ∧
    exec .phx s = .next { busWrite (stackSlot s.sp 0) s.x s with sp := s.sp - 1 } ∧
    exec .phy s = .next { busWrite (stackSlot s.sp 0) s.y s with sp := s.sp - 1 } ∧
    (let got := busRead (stackSlot s.sp 1) s
     ∃ p', FlagsAfter got.2.p p' (zn got.1) ∧
      exec .pla s = .next { got.2 with a := got.1, sp := s.sp + 1, p := p' } ∧
      exec .plx s = .next { got.2 with x := got.1, sp := s.sp + 1, p := p' } ∧
      exec .ply s = .next { got.2 with y := got.1, sp := s.sp + 1, p := p' })

/-- PHP (R251) pushes P with bits 4 and 5 set and leaves P; PLP (R252) loads P from the stack with bit 5 forced to 1. That B is loaded, and
set in the pushed copy, is the spec's decision D12. -/
def Obligations.StatusPushAndPull : Prop :=
  EncodedAs .php [0x08] .imp 1 3 ∧ EncodedAs .plp [0x28] .imp 1 4 ∧
  ∀ s : State,
    exec .php s = .next { busWrite (stackSlot s.sp 0) (s.p ||| 0x30) s with sp := s.sp - 1 } ∧
    (let got := busRead (stackSlot s.sp 1) s
     ∃ p', (∀ f, getFlag f p' = if f = .u then true else getFlag f got.1) ∧
      exec .plp s = .next { got.2 with sp := s.sp + 1, p := p' })

/-- CLC, SEC, CLI, SEI, CLD, SED, CLV (R247, R253 to R258) write their one flag and nothing else; NOP (R248) changes nothing. -/
def Obligations.FlagInstructionsAndNop : Prop :=
  (∀ row ∈ flagRows, EncodedAs row.1 [row.2.1] .imp 1 2 ∧ ∀ s : State,
    ∃ p', FlagsAfter s.p p' [(row.2.2.1, row.2.2.2)] ∧ exec row.1 s = .next { s with p := p' }) ∧
  EncodedAs .nop [0xEA] .imp 1 2 ∧ ∀ s : State, exec .nop s = .next s ∧ cyclesOf .nop s = baseCycles s.params 0xEA

/-- BRK (R259, the sequence being the spec's decision D13): the address after the padding byte, which is not read, and P with B set are
pushed, I is set, PC comes from the IRQ vector. -/
def Obligations.SoftwareInterrupt : Prop :=
  EncodedAs .brk [0x00] .imp 1 7 ∧
  ∀ s : State, ∃ t, EntersInterrupt true (s.pc + 1) 0xFFFE s t ∧ exec .brk s = .next t

/-- RTI (R260): P from the stack with bit 5 forced to 1, then PC low and high, with no one added; the latches and the countdown change
only by a device's callback. -/
def Obligations.ReturnFromInterrupt : Prop :=
  EncodedAs .rti [0x40] .imp 1 6 ∧
  ∀ s : State,
    let got := busRead (stackSlot s.sp 1) s
    ∃ p', (∀ f, getFlag f p' = if f = .u then true else getFlag f got.1) ∧
      let lo := busRead (stackSlot s.sp 2) (got.2.setP p')
      let hi := busRead (stackSlot s.sp 3) lo.2
      exec .rti s = .next { hi.2 with sp := s.sp + 3, pc := addrOf lo.1 hi.1 }

/-- RTS undoes JSR and RTI undoes BRK, over plain RAM (and with an unmatched vector), from wherever the code entered is when it returns:
RTS resumes after the JSR with S as it was (R231, R232, R25); RTI resumes two bytes after the opcode with S and P as they were, but
for B, which BRK set (R259, R260, R271). -/
def Obligations.ReturnsUndoEntries : Prop :=
  (∀ (s : State) (w pc' : Addr), PlainRam s (stackSlot s.sp 0) → PlainRam s (stackSlot s.sp 255) →
    ∃ t, exec (.jsr w) s = .next t ∧ t.pc = w ∧ t.sp = s.sp - 2 ∧
      t.memByte (stackSlot s.sp 0) = highByte (s.pc - 1) ∧ t.memByte (stackSlot s.sp 255) = lowByte (s.pc - 1) ∧
      exec .rts (t.setPc pc') = .next ((t.setPc s.pc).setSp s.sp)) ∧
  (∀ (s : State) (pc' : Addr), getFlag .u s.p = true →
    PlainRam s (stackSlot s.sp 0) → PlainRam s (stackSlot s.sp 255) → PlainRam s (stackSlot s.sp 254) →
    Unmatched s 0xFFFE → Unmatched s 0xFFFF →
    ∃ t, exec .brk s = .next t ∧ t.pc = addrOf (s.memByte 0xFFFE) (s.memByte 0xFFFF) ∧
      getFlag .b (t.memByte (stackSlot s.sp 254)) = true ∧
      ∃ p', FlagsAfter s.p p' [(.b, true)] ∧
        exec .rti (t.setPc pc') = .next (((t.setPc (s.pc + 1)).setSp s.sp).setP p'))

/-! ### Frames -/

/-- THE FRAME of the instructions that store nothing: each writes only its register and flags (R26) and PC, and every byte of memory is
unchanged. -/
def Obligations.FrameOfInstructionsThatStoreNothing : Prop :=
  (∀ row ∈ readingFrames, ∀ f ∈ row.1, ∀ b1 b2, ∀ s : State,
    ∃ t, exec (f.instr b1 b2) s = .next t ∧ Frame s t row.2.1 row.2.2 ∧ ∀ k, t.memByte k = s.memByte k) ∧
  (∀ row ∈ impliedFrames, ∀ s : State,
    ∃ t, exec row.1 s = .next t ∧ Frame s t row.2.1 row.2.2 ∧ ∀ k, t.memByte k = s.memByte k) ∧
  (∀ row ∈ branchRows, ∀ (d : Byte) (s : State),
    ∃ t, exec (row.1 d) s = .next t ∧ Frame s t [] [] ∧ ∀ k, t.memByte k = s.memByte k) ∧
  (∀ (w : Addr) (s : State), ∀ i ∈ [Instr.jmpAbs w, Instr.jmpInd w, Instr.jmpIax w],
    ∃ t, exec i s = .next t ∧ Frame s t [] [] ∧ ∀ k, t.memByte k = s.memByte k)

/-- THE FRAME of the instructions that store: each writes only its register and flags (R26) and PC, and every byte of memory outside the
stored bytes is unchanged: the effective address that `resolve` computes, or the stack slots pushed. -/
def Obligations.FrameOfInstructionsThatStore : Prop :=
  (∀ row ∈ storingFrames, ∀ f ∈ row.1, ∀ b1 b2, ∀ s : State,
    ∃ t, exec (f.instr b1 b2) s = .next t ∧ Frame s t [] row.2 ∧
      ∀ k, k ≠ (resolve (f.operand b1 b2) s).ea → t.memByte k = s.memByte k) ∧
  (∀ i ∈ [Instr.pha, Instr.phx, Instr.phy, Instr.php], ∀ s : State,
    ∃ t, exec i s = .next t ∧ Frame s t [.sp] [] ∧ ∀ k, k ≠ stackSlot s.sp 0 → t.memByte k = s.memByte k) ∧
  (∀ (w : Addr) (s : State),
    ∃ t, exec (.jsr w) s = .next t ∧ Frame s t [.sp] [] ∧
      ∀ k, k ≠ stackSlot s.sp 0 → k ≠ stackSlot s.sp 255 → t.memByte k = s.memByte k) ∧
  (∀ i ∈ Instr.brk :: undefinedSlots.map Prod.fst, ∀ s : State,
    ∃ t, exec i s = .next t ∧ Frame s t [.sp] [.b, .i] ∧
      ∀ k, k ≠ stackSlot s.sp 0 → k ≠ stackSlot s.sp 255 → k ≠ stackSlot s.sp 254 → t.memByte k = s.memByte k)

/-! ### The Bus and memory -/

/-- The Bus read (R57, R59; the order of the callbacks and the read of nothing are the spec's decision D21): `Mem` where no region
matches; else the OR of what the read callbacks of the matching regions return, each called once in registration order, and of `Mem` if
one of the regions backs it; spelt out for one region and for two; 0x00 where none answers. A read changes only what devices may change.
The read callback of an external device (R62) returns the byte of its answer and runs the inputs the answer invokes, in their order; the
answer is the script's head or else a free value, which is the model's form (log 8). -/
def Obligations.BusReadValue : Prop :=
  ∀ (s : State) (addr : Addr),
    (Unmatched s addr → busRead addr s = (s.memByte addr, s)) ∧
    (s.matching addr ≠ [] →
      let got := (s.matching addr).foldl (fun acc r => match r.reader with
        | some c =>
          let x := readCallback c r.first addr acc.2
          (acc.1 ||| x.1, x.2)
        | none => acc) (0x00#8, s)
      busRead addr s = (got.1 ||| (if ∃ r ∈ s.matching addr, r.backs = true then s.memByte addr else 0x00), got.2)) ∧
    (∀ r c, s.matching addr = [r] → r.reader = some c →
      let got := readCallback c r.first addr s
      busRead addr s = (got.1 ||| (if r.backs = true then s.memByte addr else 0x00), got.2)) ∧
    (∀ r1 r2 c1 c2, s.matching addr = [r1, r2] → r1.reader = some c1 → r2.reader = some c2 →
      let x1 := readCallback c1 r1.first addr s
      let x2 := readCallback c2 r2.first addr x1.2
      busRead addr s = ((x1.1 ||| x2.1) ||| (if r1.backs = true ∨ r2.backs = true then s.memByte addr else 0x00), x2.2)) ∧
    (s.matching addr ≠ [] → (∀ r ∈ s.matching addr, r.reader = none ∧ r.backs = false) → busRead addr s = (0x00, s)) ∧
    (∀ r, r ∈ s.matching addr ↔ r ∈ s.regions ∧ r.first.toNat ≤ addr.toNat ∧ addr.toNat ≤ r.last.toNat) ∧
    (∀ (device : Nat) (first : Addr),
      (∀ answer rest, s.script = answer :: rest →
        readCallback (.external device) first addr s
          = (answer.byte, answer.calls.foldl (fun u c => runInput c u) { s with script := rest })) ∧
      (s.script = [] →
        let answer := Config.deviceAnswer s.answered device addr none
        readCallback (.external device) first addr s
          = (answer.byte, answer.calls.foldl (fun u c => runInput c u) { s with answered := s.answered + 1 }))) ∧
    OnlyDevices s (busRead addr s).2

/-- The Bus write (R58, R59): a byte that is not read-only holds the value, whatever regions match; a read-only byte is stored only
through a backing region; no other byte changes; the rest changes only as devices may change it. Any number of matching regions, in
registration order: each one's backed store, then its write callback, and the fall-through store last unless the byte is read-only; spelt
out for one region. The write callback of an external device (R62) runs the inputs its answer invokes, in their order; the answer is the
script's head or else a free value, which is the model's form (log 8). -/
def Obligations.BusWriteEffect : Prop :=
  ∀ (s : State) (addr : Addr) (v : Byte),
    (s.isReadOnly addr = false → (busWrite addr v s).memByte addr = v) ∧
    (s.isReadOnly addr = true → (∀ r ∈ s.matching addr, r.backs = false) →
      (busWrite addr v s).memByte addr = s.memByte addr) ∧
    (s.isReadOnly addr = true → (∃ r ∈ s.matching addr, r.backs = true) → (busWrite addr v s).memByte addr = v) ∧
    (∀ k, k ≠ addr → (busWrite addr v s).memByte k = s.memByte k) ∧
    (busWrite addr v s =
      let u := (s.matching addr).foldl (fun u r =>
        let w := if r.backs = true then u.memStore addr v else u
        match r.writer with
        | some c => writeCallback c r.first addr v w
        | none => w) s
      if s.isReadOnly addr = true then u else u.memStore addr v) ∧
    (∀ r c, s.matching addr = [r] → r.writer = some c →
      busWrite addr v s =
        let u := writeCallback c r.first addr v (if r.backs = true then s.memStore addr v else s)
        if s.isReadOnly addr = true then u else u.memStore addr v) ∧
    (∀ (device : Nat) (first : Addr),
      (∀ answer rest, s.script = answer :: rest →
        writeCallback (.external device) first addr v s
          = answer.calls.foldl (fun u c => runInput c u) { s with script := rest }) ∧
      (s.script = [] →
        writeCallback (.external device) first addr v s
          = (Config.deviceAnswer s.answered device addr (some v)).calls.foldl (fun u c => runInput c u)
            { s with answered := s.answered + 1 })) ∧
    OnlyDevices s { busWrite addr v s with mem := s.mem }

/-- Memory in its canonical form is the function its bytes are: equal bytes, equal memories; a write keeps the form, gives the value back
and leaves every other byte (R51). -/
def Obligations.MemoryIsItsBytes : Prop :=
  (∀ m n : Memory, m.wf → n.wf → (∀ k, k < 65536 → m.read k = n.read k) → m = n) ∧
  (∀ (m : Memory) (k : Nat) (v : Byte), m.wf → k < 65536 → (m.write k v).wf ∧ (m.write k v).read k = v ∧
    ∀ j, j ≠ k → (m.write k v).read j = m.read j)

/-- What the host does at boot: `register` appends while fewer than 32 regions are there, else it changes nothing (R56);
`mark_read_only` adds the marks of an inclusive range and changes nothing else (R60; both ends inclusive is the spec's decision D22);
an image goes straight into memory (R61); that one past 0xFFFF goes on at 0x0000 is the model's choice (log 24). Each as the host's turn
(R9; log 9). -/
def Obligations.BootOperations : Prop :=
  (∀ (r : Region) (s : State), s.regions.length < 32 →
    registerRegion r s = (.success, { s with regions := s.regions ++ [r] })) ∧
  (∀ (r : Region) (s : State), 32 ≤ s.regions.length → registerRegion r s = (.deviceTableFull, s)) ∧
  (∀ (first last addr : Addr) (s : State),
    (markReadOnly first last s).isReadOnly addr
      = (s.isReadOnly addr || decide (first.toNat ≤ addr.toNat ∧ addr.toNat ≤ last.toNat)) ∧
    markReadOnly first last s = { s with readOnly := (markReadOnly first last s).readOnly }) ∧
  (∀ (start : Addr) (bytes : List Byte) (s : State), bytes.length ≤ 65536 →
    (∀ k (hk : k < bytes.length), (loadImage start bytes s).memByte (start + BitVec.ofNat 16 k) = bytes[k]) ∧
    (∀ addr : Addr, (∀ k, k < bytes.length → addr ≠ start + BitVec.ofNat 16 k) →
      (loadImage start bytes s).memByte addr = s.memByte addr) ∧
    loadImage start bytes s = { s with mem := (loadImage start bytes s).mem }) ∧
  (∀ (s : State) (turns : List Turn) (r : Region), s.agenda = .host (.register r) :: turns →
    step s = .next (registerRegion r { s with agenda := turns }).2) ∧
  (∀ (s : State) (turns : List Turn) (first last : Addr), s.agenda = .host (.markReadOnly first last) :: turns →
    step s = .next (markReadOnly first last { s with agenda := turns })) ∧
  ∀ (s : State) (turns : List Turn) (start : Addr) (bytes : List Byte), s.agenda = .host (.loadImage start bytes) :: turns →
    step s = .next (loadImage start bytes { s with agenda := turns })

/-! ### Interrupts, reset -/

/-- IRQ service (R280): PCH, PCL and P as it stands are pushed, I is set, PC comes from 0xFFFE and 0xFFFF, the latch is cleared. The
stack grows downward by the spec's decision D10 (R25). -/
def Obligations.IrqService : Prop :=
  ∀ s : State, ∃ t, EntersInterrupt false s.pc 0xFFFE s t ∧ serviceIrq s = { t with irqPending := false }

/-- NMI service (R281): the same pushes, PC from 0xFFFA and 0xFFFB, the latch cleared. That it sets I is the spec's decision D14
(log 19). -/
def Obligations.NmiService : Prop :=
  ∀ s : State, ∃ t, EntersInterrupt false s.pc 0xFFFA s t ∧ serviceNmi s = { t with nmiPending := false }

/-- The IRQ gate reads the I the instruction left (R279, the spec's decision D37): with an IRQ pending, CLI is followed by the service at
its own boundary, SEI is not and the request stays. -/
def Obligations.IrqGateAtOwnBoundary : Prop :=
  ∀ (s : State) (cycles len : Nat), s.irqPending = true →
    (∃ t, exec .cli s = .next t ∧
      boundary cycles len t = nmiTest (serviceIrq (countDown len (updateTimers cycles t)))) ∧
    (∃ t, exec .sei s = .next t ∧ boundary cycles len t = nmiTest (countDown len (updateTimers cycles t)) ∧
      (boundary cycles len t).irqPending = true)

/-- IRQ and NMI at one boundary (R278, R286): the IRQ's frame lies above the NMI's, whose return address is the IRQ handler; both latches
are cleared; I is set, by the NMI entry too (the spec's decision D14, log 19), and A, X, Y, every other flag and everything else but PC, S
and the six stacked bytes stay as they were; over plain RAM and unmatched vectors. -/
def Obligations.IrqThenNmiAtOneBoundary : Prop :=
  ∀ s : State, s.irqPending = true → s.nmiPending = true → getFlag .i s.p = false →
    (∀ k : Nat, k ∈ [0, 255, 254, 253, 252, 251] → PlainRam s (stackSlot s.sp k)) →
    (∀ v ∈ [0xFFFA#16, 0xFFFB#16, 0xFFFE#16, 0xFFFF#16], Unmatched s v) →
    let h := addrOf (s.memByte 0xFFFE) (s.memByte 0xFFFF)
    let t := nmiTest (irqGate s)
    t.pc = addrOf (s.memByte 0xFFFA) (s.memByte 0xFFFB) ∧ t.sp = s.sp - 6 ∧ t.irqPending = false ∧ t.nmiPending = false ∧
    (∃ p', FlagsAfter s.p p' [(.i, true)] ∧
      t = { s with pc := t.pc, sp := t.sp, p := p', irqPending := false, nmiPending := false, mem := t.mem }) ∧
    (∀ k, (∀ j ∈ [0, 255, 254, 253, 252, 251], k ≠ stackSlot s.sp j) → t.memByte k = s.memByte k) ∧
    t.memByte (stackSlot s.sp 0) = highByte s.pc ∧ t.memByte (stackSlot s.sp 255) = lowByte s.pc ∧
    t.memByte (stackSlot s.sp 254) = s.p ∧ t.memByte (stackSlot s.sp 253) = highByte h ∧
    t.memByte (stackSlot s.sp 252) = lowByte h ∧ t.memByte (stackSlot s.sp 251) = s.p ||| 0x04

/-- The delayed-NMI countdown (R288; the threshold reading is the spec's decision D17): one boundary, and any sequence of boundaries from
8 on, after which the NMI is pending iff the lengths add up to at least 8. -/
def Obligations.DelayedNmiCountdown : Prop :=
  (∀ (len : Nat) (s : State),
    (s.nmiDelay = 0 → countDown len s = s) ∧
    (0 < s.nmiDelay → s.nmiDelay ≤ len → countDown len s = { s with nmiDelay := 0, nmiPending := true }) ∧
    (len < s.nmiDelay → countDown len s = { s with nmiDelay := s.nmiDelay - len })) ∧
  (∀ (lens : List Nat) (s : State),
    (lens.foldl (fun u len => countDown len u) { s with nmiDelay := 8, nmiPending := false }).nmiPending
      = decide (8 ≤ lens.sum))

/-- `assert_irq`, `assert_nmi` (R283, R284) latch the request and clear B, and service nothing; `arm_delayed_nmi` (R287) sets the
countdown to 8, also where one is active; `set_input_port` (R341) reaches the one instance. Each as a turn between steps too (R62; log 9).
-/
def Obligations.InterruptInputs : Prop :=
  (∀ s : State,
    (∃ p', FlagsAfter s.p p' [(.b, false)] ∧ runInput .assertIrq s = { s with irqPending := true, p := p' } ∧
      runInput .assertNmi s = { s with nmiPending := true, p := p' }) ∧
    runInput .armDelayedNmi s = { s with nmiDelay := 8 } ∧
    ∀ i port op mask, ∃ timers', runInput (.setInputPort i port op mask) s = { s with timers := timers' } ∧
      timers'.length = s.timers.length ∧
      ∀ k (hk : k < s.timers.length),
        timers'[k]? = some (if k = i then s.timers[k].setInputPort port op mask else s.timers[k])) ∧
  ∀ (s : State) (turns : List Turn) (c : CoreInput), s.agenda = .host (.input c) :: turns →
    step s = .next (runInput c { s with agenda := turns })

/-- CPU reset (R360; clearing the countdown is the spec's decision D18): PC from 0xFFFC and 0xFFFD through the Bus, S = 0xFF, P = 0x20,
latches and countdown cleared, nothing else; A, X and Y are not assigned, so they keep what the spec leaves unspecified (D18; log 2); the
reset state is a reset of itself (R39). `continue` (R297; forcing bit 5 is the spec's decision D34): the registers, and P with bit 5 set;
latches, countdown, memory and devices keep their values. Both are turns of the host between steps (R9, R361; that the agenda lists them
is the model's form, log 9). `get_pc` (R298) is no turn: it reads PC, in every state. -/
def Obligations.CpuResetAndContinue : Prop :=
  (∀ (s : State) (turns : List Turn), s.agenda = .host .reset :: turns →
    let lo := busRead 0xFFFC s
    let hi := busRead 0xFFFD lo.2
    step s = .next { hi.2 with pc := addrOf lo.1 hi.1, sp := 0xFF, p := 0x20, irqPending := false, nmiPending := false,
                               nmiDelay := 0, agenda := turns }) ∧
  cpuReset State.reset = State.reset ∧
  (∀ (s : State) (turns : List Turn) (pc : Addr) (a x y sp psw : Byte),
    s.agenda = .host (.resume pc a x y sp psw) :: turns →
    ∃ p', (∀ f, getFlag f p' = if f = .u then true else getFlag f psw) ∧
      step s = .next { s with pc := pc, a := a, x := x, y := y, sp := sp, p := p', agenda := turns }) ∧
  ∀ s : State, getPc s = s.pc

/-! ### The timers -/

/-- Timer 1, continuous (R320, R321): the counter goes down by the elapsed cycles, modulo the latch plus one once it passes below zero; only
then IFR bit 6 is set and, with ACR bit 7, the output line toggled once. Which bit the line is, is the spec's decision D29
(log 23). -/
def Obligations.Timer1Continuous : Prop :=
  ∀ (t : Timer) (e : Nat), t.acr.getLsbD 6 = true →
    let u := (t.update e).2
    (e ≤ t.counter1 → u.counter1 = t.counter1 - e ∧ u.ifr.getLsbD 6 = t.ifr.getLsbD 6 ∧ u.outLatchB = t.outLatchB) ∧
    (t.counter1 < e → (u.counter1 : Int) = ((t.counter1 : Int) - e) % (t.latch1 + 1) ∧ u.counter1 ≤ t.latch1 ∧
      u.ifr.getLsbD 6 = true ∧
      u.outLatchB = if t.acr.getLsbD 7 = true then t.outLatchB ^^^ 0x0080 else t.outLatchB) ∧
    u.latch1 = t.latch1 ∧ u.outLatchA = t.outLatchA

/-- Timer 1, one-shot (R320, R321): the counter stops at zero; IFR bit 6 is set, and with ACR bit 7 the output line forced high, in the one
update that brings it there; at zero it stays (the spec's decision D40). Which bit the line is, is the spec's decision D29 (log 23). -/
def Obligations.Timer1OneShot : Prop :=
  ∀ (t : Timer) (e : Nat), t.acr.getLsbD 6 = false →
    let u := (t.update e).2
    u.counter1 = t.counter1 - e ∧ u.latch1 = t.latch1 ∧
    u.ifr.getLsbD 6 = (t.ifr.getLsbD 6 || decide (0 < t.counter1 ∧ t.counter1 ≤ e)) ∧
    u.outLatchB = if 0 < t.counter1 ∧ t.counter1 ≤ e ∧ t.acr.getLsbD 7 = true then t.outLatchB ||| 0x0080 else t.outLatchB

/-- Timer 2 (R320, R325): with ACR bit 5 set it counts down modulo 65536 and sets IFR bit 5 when it passes below zero; with the bit clear
nothing of it changes (the spec's decision D30; log 18). -/
def Obligations.Timer2CountsAndWraps : Prop :=
  ∀ (t : Timer) (e : Nat),
    let u := (t.update e).2
    (t.acr.getLsbD 5 = true → (u.counter2 : Int) = ((t.counter2 : Int) - e) % 65536 ∧
      u.ifr.getLsbD 5 = (t.ifr.getLsbD 5 || decide (t.counter2 < e))) ∧
    (t.acr.getLsbD 5 = false → u.counter2 = t.counter2 ∧ u.ifr.getLsbD 5 = t.ifr.getLsbD 5)

/-- The summary and the request (R320, R324): requested iff a flag is set and enabled after the update, IFR bit 7 says so, and a flag that
was set and enabled before keeps requesting; at a boundary every instance is advanced, and one requesting instance or more latch the IRQ
and clear B (R276, the spec's decision D16). -/
def Obligations.TimerRequestIsALevel : Prop :=
  (∀ (t : Timer) (e : Nat),
    let u := (t.update e).2
    (t.update e).1 = decide (u.ier &&& u.ifr &&& 0x7F ≠ 0) ∧ u.ifr.getLsbD 7 = (t.update e).1 ∧ u.ier = t.ier ∧
    (t.ier &&& t.ifr &&& 0x7F ≠ 0 → (t.update e).1 = true)) ∧
  (∀ (s : State) (cycles : Nat),
    ((∃ t ∈ s.timers, (t.update cycles).1 = true) →
      ∃ p', FlagsAfter s.p p' [(.b, false)] ∧ updateTimers cycles s =
        { s with timers := s.timers.map (fun t => (t.update cycles).2), irqPending := true, p := p' }) ∧
    ((∀ t ∈ s.timers, (t.update cycles).1 = false) →
      updateTimers cycles s = { s with timers := s.timers.map (fun t => (t.update cycles).2) }))

/-- A register read clears its flags and then returns the register (R330); a write clears its flags, then (R332): T1C-H reloads the
counter from the latch (R333, decision D27), IER sets or clears the enables its low seven bits name (R334), and every register
without a named side effect, IFR too, is a plain store (R335, R336, decision D26). The tables are the machine's `readClears` and
`writeClears` (log 7). -/
def Obligations.TimerRegisterAccess : Prop :=
  ∀ (q : Params) (t : Timer) (v : Byte),
    (∀ r, t.readRegister q r =
      (Timer.reg r { t with ifr := t.ifr &&& ~~~readClears q r }, { t with ifr := t.ifr &&& ~~~readClears q r })) ∧
    (t.writeRegister q .t1ch v = { t with ifr := t.ifr &&& ~~~writeClears q .t1ch, t1cl := t.t1ll, t1ch := t.t1lh } ∧
      (t.writeRegister q .t1ch v).counter1 = t.latch1) ∧
    (∃ ier', t.writeRegister q .ier v = { t with ifr := t.ifr &&& ~~~writeClears q .ier, ier := ier' } ∧
      (∀ k, k < 7 → ier'.getLsbD k = if v.getLsbD k = true then v.getLsbD 7 else t.ier.getLsbD k) ∧
      ier'.getLsbD 7 = t.ier.getLsbD 7) ∧
    (∀ r ∈ [TimerReg.ddrb, .ddra, .t1cl, .t1ll, .t1lh, .t2cl, .t2ch, .sr, .acr, .pcr, .ifr],
      (t.writeRegister q r v).reg r = v ∧
      (∀ k, k ≠ r → k ≠ .ifr → (t.writeRegister q r v).reg k = t.reg k) ∧
      (r ≠ .ifr → (t.writeRegister q r v).ifr = t.ifr &&& ~~~writeClears q r) ∧
      (t.writeRegister q r v).outLatchA = t.outLatchA ∧ (t.writeRegister q r v).outLatchB = t.outLatchB ∧
      (t.writeRegister q r v).inLatchA = t.inLatchA ∧ (t.writeRegister q r v).inLatchB = t.inLatchB)

/-- The ports, bit by bit: an output-register write clears its flags (R332), stores the byte and makes the output latch the written bit
where the direction bit is 0 and the input bit where it is 1, bits 15 to 8 zero (R340), and changes nothing else; `set_input_port` moves
the input latch and makes the visible registers the input bits where the direction bit is 0 (R341), and changes nothing else. Which
registers these are is the spec's decision D31. -/
def Obligations.TimerPorts : Prop :=
  ∀ (q : Params) (t : Timer) (v : Byte),
    (∃ latch, t.writeRegister q .orb v = { t with ifr := t.ifr &&& ~~~writeClears q .orb, orb := v, outLatchB := latch } ∧
      ∀ k, latch.getLsbD k = (decide (k < 8) && if t.ddrb.getLsbD k = true then t.inLatchB.getLsbD k else v.getLsbD k)) ∧
    (∃ latch, t.writeRegister q .ora v = { t with ifr := t.ifr &&& ~~~writeClears q .ora, ora := v, outLatchA := latch } ∧
      t.writeRegister q .oraNh v = { t with ifr := t.ifr &&& ~~~writeClears q .oraNh, oraNh := v, outLatchA := latch } ∧
      ∀ k, latch.getLsbD k = (decide (k < 8) && if t.ddra.getLsbD k = true then t.inLatchA.getLsbD k else v.getLsbD k)) ∧
    (∀ (op : PortOp) (mask : BitVec 16),
      (∃ latch orb', t.setInputPort .b op mask = { t with inLatchB := latch, orb := orb' } ∧
        (∀ k, k < 16 → latch.getLsbD k = match op with
          | .orIn => t.inLatchB.getLsbD k || mask.getLsbD k
          | .andOut => t.inLatchB.getLsbD k && !mask.getLsbD k
          | .replace => mask.getLsbD k) ∧
        ∀ k, k < 8 → orb'.getLsbD k = (latch.getLsbD k && !t.ddrb.getLsbD k)) ∧
      (∃ latch ora', t.setInputPort .a op mask = { t with inLatchA := latch, ora := ora', oraNh := ora' } ∧
        (∀ k, k < 16 → latch.getLsbD k = match op with
          | .orIn => t.inLatchA.getLsbD k || mask.getLsbD k
          | .andOut => t.inLatchA.getLsbD k && !mask.getLsbD k
          | .replace => mask.getLsbD k) ∧
        ∀ k, k < 8 → ora'.getLsbD k = (latch.getLsbD k && !t.ddra.getLsbD k)))

/-- A timer on the Bus (R312, the layout being the spec's decision D23): an access to its base plus k reads register k or writes it, a write
also leaves its mirror in memory unless the byte is read-only (R332). -/
def Obligations.TimerOnTheBus : Prop :=
  ∀ (s : State) (i : Nat) (t : Timer) (base addr : Addr) (v : Byte), s.timers[i]? = some t → base.toNat ≤ 0xFFF0 →
    base.toNat ≤ addr.toNat → addr.toNat < base.toNat + 16 → s.matching addr = [timerRegion i base] →
    (timerRegion i base).covers addr = true ∧
    ∃ r, allTimerRegs[addr.toNat - base.toNat]? = some r ∧
      busRead addr s = ((t.readRegister s.params r).1, { s with timers := s.timers.set i (t.readRegister s.params r).2 }) ∧
      busWrite addr v s = { s with
        timers := s.timers.set i (t.writeRegister s.params r v)
        mem := if s.isReadOnly addr = true then s.mem else s.mem.write addr.toNat v }

/-- Timer reset and `initialise` (R318, R319; the zeros are the spec's decision D24): every register and latch zero, the base kept or set,
the region of 16 addresses registered at the end of a table with room (R56), and no region in a full one; other instances, memory and the
CPU are untouched. The model's choices here: a reset reaches every instance with that base (log 25); a base above 0xFFF0, which R312
forbids, gives a region whose end has wrapped (log 16); an instance already placed is moved, and an index past the last creates the next
instance (log 21); `reload` leaves an instance without a base as it is, which R347 does not know (log 3). `reload` (R347, the order being
the spec's decision D42) of an instance at a base: storage registers take their mirror bytes; the counter T1C takes the latch as it stood
BEFORE; IER goes through its set and clear rule; IFR ends as its mirror less what the writes after it clear; the output latch of port B is
computed with the direction as it stood BEFORE, that of port A by the last write, of reg 15, with the new one; input latches and memory
are untouched. Each as the host's turn (R9; log 9). -/
def Obligations.TimerResetInitialiseReload : Prop :=
  (∀ (b : Option Addr) (r : TimerReg), (Timer.fresh b).reg r = 0x00 ∧ (Timer.fresh b).inLatchA = 0 ∧
    (Timer.fresh b).inLatchB = 0 ∧ (Timer.fresh b).outLatchA = 0 ∧ (Timer.fresh b).outLatchB = 0 ∧ (Timer.fresh b).base = b) ∧
  (∀ (address : Addr) (s : State), timerReset address s = { s with timers := (timerReset address s).timers } ∧
    (timerReset address s).timers.length = s.timers.length ∧
    ∀ i (hi : i < s.timers.length), (timerReset address s).timers[i]? =
      if s.timers[i].base = some address then some (Timer.fresh (some address)) else some s.timers[i]) ∧
  (∀ (i : Nat) (address : Addr) (s : State),
    let k := if i < s.timers.length then i else s.timers.length
    let timers' := if i < s.timers.length then s.timers.set i (Timer.fresh (some address))
      else s.timers ++ [Timer.fresh (some address)]
    (s.regions.length < 32 → timerInitialise i address s = (.success, { s with
      timers := timers'
      regions := s.regions ++ [⟨address, address + 15, some (.timer k), some (.timer k), false⟩] })) ∧
    (32 ≤ s.regions.length → timerInitialise i address s = (.deviceTableFull, { s with timers := timers' })) ∧
    (address.toNat ≤ 0xFFF0 → (address + 15).toNat = address.toNat + 15)) ∧
  (∀ s : State, timerReload s = { s with timers := (timerReload s).timers } ∧
    (timerReload s).timers.length = s.timers.length ∧
    ∀ i (hi : i < s.timers.length), (timerReload s).timers[i]? = some (reloadTimer s.params s.mem s.timers[i])) ∧
  (∀ (q : Params) (m : Memory) (t : Timer), t.base = none → reloadTimer q m t = t) ∧
  (∀ (q : Params) (m : Memory) (t : Timer) (base : Addr), t.base = some base →
    let u := reloadTimer q m t
    let mirror := fun k : Nat => m.read (base + BitVec.ofNat 16 k).toNat
    u.base = t.base ∧ u.orb = mirror 0 ∧ u.ora = mirror 1 ∧ u.ddrb = mirror 2 ∧ u.ddra = mirror 3 ∧
    u.counter1 = t.latch1 ∧ u.t1ll = mirror 6 ∧ u.t1lh = mirror 7 ∧ u.t2cl = mirror 8 ∧ u.t2ch = mirror 9 ∧ u.sr = mirror 10 ∧
    u.acr = mirror 11 ∧ u.pcr = mirror 12 ∧ u.ifr = mirror 13 &&& ~~~writeClears q .ier &&& ~~~writeClears q .oraNh ∧
    (∀ k, k < 7 → u.ier.getLsbD k = if (mirror 14).getLsbD k = true then (mirror 14).getLsbD 7 else t.ier.getLsbD k) ∧
    u.ier.getLsbD 7 = t.ier.getLsbD 7 ∧ u.oraNh = mirror 15 ∧ u.inLatchA = t.inLatchA ∧ u.inLatchB = t.inLatchB ∧
    (∀ k, u.outLatchB.getLsbD k =
      (decide (k < 8) && if t.ddrb.getLsbD k = true then t.inLatchB.getLsbD k else (mirror 0).getLsbD k)) ∧
    ∀ k, u.outLatchA.getLsbD k =
      (decide (k < 8) && if (mirror 3).getLsbD k = true then t.inLatchA.getLsbD k else (mirror 15).getLsbD k)) ∧
  ∀ (s : State) (turns : List Turn),
    (∀ i address, s.agenda = .host (.timerInitialise i address) :: turns →
      step s = .next (timerInitialise i address { s with agenda := turns }).2) ∧
    (∀ address, s.agenda = .host (.timerReset address) :: turns → step s = .next (timerReset address { s with agenda := turns })) ∧
    (s.agenda = .host .timerReload :: turns → step s = .next (timerReload { s with agenda := turns }))

end
end

