-- ==== Sys2Proof/Laws/State.lean ====
section
/-! SUPPORT. One lemma per field per write operation of State (Machine/Registers.lean), true by rfl: no later proof unfolds a record
update. -/

namespace Sys2Proof.Machine

@[simp] theorem State.setA_a (v : Byte) (s : State) : (s.setA v).a = v := rfl
@[simp] theorem State.setA_x (v : Byte) (s : State) : (s.setA v).x = s.x := rfl
@[simp] theorem State.setA_y (v : Byte) (s : State) : (s.setA v).y = s.y := rfl
@[simp] theorem State.setA_sp (v : Byte) (s : State) : (s.setA v).sp = s.sp := rfl
@[simp] theorem State.setA_p (v : Byte) (s : State) : (s.setA v).p = s.p := rfl
@[simp] theorem State.setA_pc (v : Byte) (s : State) : (s.setA v).pc = s.pc := rfl
@[simp] theorem State.setA_irqPending (v : Byte) (s : State) : (s.setA v).irqPending = s.irqPending := rfl
@[simp] theorem State.setA_nmiPending (v : Byte) (s : State) : (s.setA v).nmiPending = s.nmiPending := rfl
@[simp] theorem State.setA_nmiDelay (v : Byte) (s : State) : (s.setA v).nmiDelay = s.nmiDelay := rfl
@[simp] theorem State.setA_mem (v : Byte) (s : State) : (s.setA v).mem = s.mem := rfl
@[simp] theorem State.setA_readOnly (v : Byte) (s : State) : (s.setA v).readOnly = s.readOnly := rfl
@[simp] theorem State.setA_regions (v : Byte) (s : State) : (s.setA v).regions = s.regions := rfl
@[simp] theorem State.setA_timers (v : Byte) (s : State) : (s.setA v).timers = s.timers := rfl
@[simp] theorem State.setA_script (v : Byte) (s : State) : (s.setA v).script = s.script := rfl
@[simp] theorem State.setA_answered (v : Byte) (s : State) : (s.setA v).answered = s.answered := rfl
@[simp] theorem State.setA_agenda (v : Byte) (s : State) : (s.setA v).agenda = s.agenda := rfl
@[simp] theorem State.setA_params (v : Byte) (s : State) : (s.setA v).params = s.params := rfl

@[simp] theorem State.setX_a (v : Byte) (s : State) : (s.setX v).a = s.a := rfl
@[simp] theorem State.setX_x (v : Byte) (s : State) : (s.setX v).x = v := rfl
@[simp] theorem State.setX_y (v : Byte) (s : State) : (s.setX v).y = s.y := rfl
@[simp] theorem State.setX_sp (v : Byte) (s : State) : (s.setX v).sp = s.sp := rfl
@[simp] theorem State.setX_p (v : Byte) (s : State) : (s.setX v).p = s.p := rfl
@[simp] theorem State.setX_pc (v : Byte) (s : State) : (s.setX v).pc = s.pc := rfl
@[simp] theorem State.setX_irqPending (v : Byte) (s : State) : (s.setX v).irqPending = s.irqPending := rfl
@[simp] theorem State.setX_nmiPending (v : Byte) (s : State) : (s.setX v).nmiPending = s.nmiPending := rfl
@[simp] theorem State.setX_nmiDelay (v : Byte) (s : State) : (s.setX v).nmiDelay = s.nmiDelay := rfl
@[simp] theorem State.setX_mem (v : Byte) (s : State) : (s.setX v).mem = s.mem := rfl
@[simp] theorem State.setX_readOnly (v : Byte) (s : State) : (s.setX v).readOnly = s.readOnly := rfl
@[simp] theorem State.setX_regions (v : Byte) (s : State) : (s.setX v).regions = s.regions := rfl
@[simp] theorem State.setX_timers (v : Byte) (s : State) : (s.setX v).timers = s.timers := rfl
@[simp] theorem State.setX_script (v : Byte) (s : State) : (s.setX v).script = s.script := rfl
@[simp] theorem State.setX_answered (v : Byte) (s : State) : (s.setX v).answered = s.answered := rfl
@[simp] theorem State.setX_agenda (v : Byte) (s : State) : (s.setX v).agenda = s.agenda := rfl
@[simp] theorem State.setX_params (v : Byte) (s : State) : (s.setX v).params = s.params := rfl

@[simp] theorem State.setY_a (v : Byte) (s : State) : (s.setY v).a = s.a := rfl
@[simp] theorem State.setY_x (v : Byte) (s : State) : (s.setY v).x = s.x := rfl
@[simp] theorem State.setY_y (v : Byte) (s : State) : (s.setY v).y = v := rfl
@[simp] theorem State.setY_sp (v : Byte) (s : State) : (s.setY v).sp = s.sp := rfl
@[simp] theorem State.setY_p (v : Byte) (s : State) : (s.setY v).p = s.p := rfl
@[simp] theorem State.setY_pc (v : Byte) (s : State) : (s.setY v).pc = s.pc := rfl
@[simp] theorem State.setY_irqPending (v : Byte) (s : State) : (s.setY v).irqPending = s.irqPending := rfl
@[simp] theorem State.setY_nmiPending (v : Byte) (s : State) : (s.setY v).nmiPending = s.nmiPending := rfl
@[simp] theorem State.setY_nmiDelay (v : Byte) (s : State) : (s.setY v).nmiDelay = s.nmiDelay := rfl
@[simp] theorem State.setY_mem (v : Byte) (s : State) : (s.setY v).mem = s.mem := rfl
@[simp] theorem State.setY_readOnly (v : Byte) (s : State) : (s.setY v).readOnly = s.readOnly := rfl
@[simp] theorem State.setY_regions (v : Byte) (s : State) : (s.setY v).regions = s.regions := rfl
@[simp] theorem State.setY_timers (v : Byte) (s : State) : (s.setY v).timers = s.timers := rfl
@[simp] theorem State.setY_script (v : Byte) (s : State) : (s.setY v).script = s.script := rfl
@[simp] theorem State.setY_answered (v : Byte) (s : State) : (s.setY v).answered = s.answered := rfl
@[simp] theorem State.setY_agenda (v : Byte) (s : State) : (s.setY v).agenda = s.agenda := rfl
@[simp] theorem State.setY_params (v : Byte) (s : State) : (s.setY v).params = s.params := rfl

@[simp] theorem State.setSp_a (v : Byte) (s : State) : (s.setSp v).a = s.a := rfl
@[simp] theorem State.setSp_x (v : Byte) (s : State) : (s.setSp v).x = s.x := rfl
@[simp] theorem State.setSp_y (v : Byte) (s : State) : (s.setSp v).y = s.y := rfl
@[simp] theorem State.setSp_sp (v : Byte) (s : State) : (s.setSp v).sp = v := rfl
@[simp] theorem State.setSp_p (v : Byte) (s : State) : (s.setSp v).p = s.p := rfl
@[simp] theorem State.setSp_pc (v : Byte) (s : State) : (s.setSp v).pc = s.pc := rfl
@[simp] theorem State.setSp_irqPending (v : Byte) (s : State) : (s.setSp v).irqPending = s.irqPending := rfl
@[simp] theorem State.setSp_nmiPending (v : Byte) (s : State) : (s.setSp v).nmiPending = s.nmiPending := rfl
@[simp] theorem State.setSp_nmiDelay (v : Byte) (s : State) : (s.setSp v).nmiDelay = s.nmiDelay := rfl
@[simp] theorem State.setSp_mem (v : Byte) (s : State) : (s.setSp v).mem = s.mem := rfl
@[simp] theorem State.setSp_readOnly (v : Byte) (s : State) : (s.setSp v).readOnly = s.readOnly := rfl
@[simp] theorem State.setSp_regions (v : Byte) (s : State) : (s.setSp v).regions = s.regions := rfl
@[simp] theorem State.setSp_timers (v : Byte) (s : State) : (s.setSp v).timers = s.timers := rfl
@[simp] theorem State.setSp_script (v : Byte) (s : State) : (s.setSp v).script = s.script := rfl
@[simp] theorem State.setSp_answered (v : Byte) (s : State) : (s.setSp v).answered = s.answered := rfl
@[simp] theorem State.setSp_agenda (v : Byte) (s : State) : (s.setSp v).agenda = s.agenda := rfl
@[simp] theorem State.setSp_params (v : Byte) (s : State) : (s.setSp v).params = s.params := rfl

@[simp] theorem State.setP_a (v : Byte) (s : State) : (s.setP v).a = s.a := rfl
@[simp] theorem State.setP_x (v : Byte) (s : State) : (s.setP v).x = s.x := rfl
@[simp] theorem State.setP_y (v : Byte) (s : State) : (s.setP v).y = s.y := rfl
@[simp] theorem State.setP_sp (v : Byte) (s : State) : (s.setP v).sp = s.sp := rfl
@[simp] theorem State.setP_p (v : Byte) (s : State) : (s.setP v).p = v := rfl
@[simp] theorem State.setP_pc (v : Byte) (s : State) : (s.setP v).pc = s.pc := rfl
@[simp] theorem State.setP_irqPending (v : Byte) (s : State) : (s.setP v).irqPending = s.irqPending := rfl
@[simp] theorem State.setP_nmiPending (v : Byte) (s : State) : (s.setP v).nmiPending = s.nmiPending := rfl
@[simp] theorem State.setP_nmiDelay (v : Byte) (s : State) : (s.setP v).nmiDelay = s.nmiDelay := rfl
@[simp] theorem State.setP_mem (v : Byte) (s : State) : (s.setP v).mem = s.mem := rfl
@[simp] theorem State.setP_readOnly (v : Byte) (s : State) : (s.setP v).readOnly = s.readOnly := rfl
@[simp] theorem State.setP_regions (v : Byte) (s : State) : (s.setP v).regions = s.regions := rfl
@[simp] theorem State.setP_timers (v : Byte) (s : State) : (s.setP v).timers = s.timers := rfl
@[simp] theorem State.setP_script (v : Byte) (s : State) : (s.setP v).script = s.script := rfl
@[simp] theorem State.setP_answered (v : Byte) (s : State) : (s.setP v).answered = s.answered := rfl
@[simp] theorem State.setP_agenda (v : Byte) (s : State) : (s.setP v).agenda = s.agenda := rfl
@[simp] theorem State.setP_params (v : Byte) (s : State) : (s.setP v).params = s.params := rfl

@[simp] theorem State.setPc_a (v : Addr) (s : State) : (s.setPc v).a = s.a := rfl
@[simp] theorem State.setPc_x (v : Addr) (s : State) : (s.setPc v).x = s.x := rfl
@[simp] theorem State.setPc_y (v : Addr) (s : State) : (s.setPc v).y = s.y := rfl
@[simp] theorem State.setPc_sp (v : Addr) (s : State) : (s.setPc v).sp = s.sp := rfl
@[simp] theorem State.setPc_p (v : Addr) (s : State) : (s.setPc v).p = s.p := rfl
@[simp] theorem State.setPc_pc (v : Addr) (s : State) : (s.setPc v).pc = v := rfl
@[simp] theorem State.setPc_irqPending (v : Addr) (s : State) : (s.setPc v).irqPending = s.irqPending := rfl
@[simp] theorem State.setPc_nmiPending (v : Addr) (s : State) : (s.setPc v).nmiPending = s.nmiPending := rfl
@[simp] theorem State.setPc_nmiDelay (v : Addr) (s : State) : (s.setPc v).nmiDelay = s.nmiDelay := rfl
@[simp] theorem State.setPc_mem (v : Addr) (s : State) : (s.setPc v).mem = s.mem := rfl
@[simp] theorem State.setPc_readOnly (v : Addr) (s : State) : (s.setPc v).readOnly = s.readOnly := rfl
@[simp] theorem State.setPc_regions (v : Addr) (s : State) : (s.setPc v).regions = s.regions := rfl
@[simp] theorem State.setPc_timers (v : Addr) (s : State) : (s.setPc v).timers = s.timers := rfl
@[simp] theorem State.setPc_script (v : Addr) (s : State) : (s.setPc v).script = s.script := rfl
@[simp] theorem State.setPc_answered (v : Addr) (s : State) : (s.setPc v).answered = s.answered := rfl
@[simp] theorem State.setPc_agenda (v : Addr) (s : State) : (s.setPc v).agenda = s.agenda := rfl
@[simp] theorem State.setPc_params (v : Addr) (s : State) : (s.setPc v).params = s.params := rfl

@[simp] theorem State.setIrqPending_a (v : Bool) (s : State) : (s.setIrqPending v).a = s.a := rfl
@[simp] theorem State.setIrqPending_x (v : Bool) (s : State) : (s.setIrqPending v).x = s.x := rfl
@[simp] theorem State.setIrqPending_y (v : Bool) (s : State) : (s.setIrqPending v).y = s.y := rfl
@[simp] theorem State.setIrqPending_sp (v : Bool) (s : State) : (s.setIrqPending v).sp = s.sp := rfl
@[simp] theorem State.setIrqPending_p (v : Bool) (s : State) : (s.setIrqPending v).p = s.p := rfl
@[simp] theorem State.setIrqPending_pc (v : Bool) (s : State) : (s.setIrqPending v).pc = s.pc := rfl
@[simp] theorem State.setIrqPending_irqPending (v : Bool) (s : State) : (s.setIrqPending v).irqPending = v := rfl
@[simp] theorem State.setIrqPending_nmiPending (v : Bool) (s : State) : (s.setIrqPending v).nmiPending = s.nmiPending := rfl
@[simp] theorem State.setIrqPending_nmiDelay (v : Bool) (s : State) : (s.setIrqPending v).nmiDelay = s.nmiDelay := rfl
@[simp] theorem State.setIrqPending_mem (v : Bool) (s : State) : (s.setIrqPending v).mem = s.mem := rfl
@[simp] theorem State.setIrqPending_readOnly (v : Bool) (s : State) : (s.setIrqPending v).readOnly = s.readOnly := rfl
@[simp] theorem State.setIrqPending_regions (v : Bool) (s : State) : (s.setIrqPending v).regions = s.regions := rfl
@[simp] theorem State.setIrqPending_timers (v : Bool) (s : State) : (s.setIrqPending v).timers = s.timers := rfl
@[simp] theorem State.setIrqPending_script (v : Bool) (s : State) : (s.setIrqPending v).script = s.script := rfl
@[simp] theorem State.setIrqPending_answered (v : Bool) (s : State) : (s.setIrqPending v).answered = s.answered := rfl
@[simp] theorem State.setIrqPending_agenda (v : Bool) (s : State) : (s.setIrqPending v).agenda = s.agenda := rfl
@[simp] theorem State.setIrqPending_params (v : Bool) (s : State) : (s.setIrqPending v).params = s.params := rfl

@[simp] theorem State.setNmiPending_a (v : Bool) (s : State) : (s.setNmiPending v).a = s.a := rfl
@[simp] theorem State.setNmiPending_x (v : Bool) (s : State) : (s.setNmiPending v).x = s.x := rfl
@[simp] theorem State.setNmiPending_y (v : Bool) (s : State) : (s.setNmiPending v).y = s.y := rfl
@[simp] theorem State.setNmiPending_sp (v : Bool) (s : State) : (s.setNmiPending v).sp = s.sp := rfl
@[simp] theorem State.setNmiPending_p (v : Bool) (s : State) : (s.setNmiPending v).p = s.p := rfl
@[simp] theorem State.setNmiPending_pc (v : Bool) (s : State) : (s.setNmiPending v).pc = s.pc := rfl
@[simp] theorem State.setNmiPending_irqPending (v : Bool) (s : State) : (s.setNmiPending v).irqPending = s.irqPending := rfl
@[simp] theorem State.setNmiPending_nmiPending (v : Bool) (s : State) : (s.setNmiPending v).nmiPending = v := rfl
@[simp] theorem State.setNmiPending_nmiDelay (v : Bool) (s : State) : (s.setNmiPending v).nmiDelay = s.nmiDelay := rfl
@[simp] theorem State.setNmiPending_mem (v : Bool) (s : State) : (s.setNmiPending v).mem = s.mem := rfl
@[simp] theorem State.setNmiPending_readOnly (v : Bool) (s : State) : (s.setNmiPending v).readOnly = s.readOnly := rfl
@[simp] theorem State.setNmiPending_regions (v : Bool) (s : State) : (s.setNmiPending v).regions = s.regions := rfl
@[simp] theorem State.setNmiPending_timers (v : Bool) (s : State) : (s.setNmiPending v).timers = s.timers := rfl
@[simp] theorem State.setNmiPending_script (v : Bool) (s : State) : (s.setNmiPending v).script = s.script := rfl
@[simp] theorem State.setNmiPending_answered (v : Bool) (s : State) : (s.setNmiPending v).answered = s.answered := rfl
@[simp] theorem State.setNmiPending_agenda (v : Bool) (s : State) : (s.setNmiPending v).agenda = s.agenda := rfl
@[simp] theorem State.setNmiPending_params (v : Bool) (s : State) : (s.setNmiPending v).params = s.params := rfl

@[simp] theorem State.setNmiDelay_a (v : Nat) (s : State) : (s.setNmiDelay v).a = s.a := rfl
@[simp] theorem State.setNmiDelay_x (v : Nat) (s : State) : (s.setNmiDelay v).x = s.x := rfl
@[simp] theorem State.setNmiDelay_y (v : Nat) (s : State) : (s.setNmiDelay v).y = s.y := rfl
@[simp] theorem State.setNmiDelay_sp (v : Nat) (s : State) : (s.setNmiDelay v).sp = s.sp := rfl
@[simp] theorem State.setNmiDelay_p (v : Nat) (s : State) : (s.setNmiDelay v).p = s.p := rfl
@[simp] theorem State.setNmiDelay_pc (v : Nat) (s : State) : (s.setNmiDelay v).pc = s.pc := rfl
@[simp] theorem State.setNmiDelay_irqPending (v : Nat) (s : State) : (s.setNmiDelay v).irqPending = s.irqPending := rfl
@[simp] theorem State.setNmiDelay_nmiPending (v : Nat) (s : State) : (s.setNmiDelay v).nmiPending = s.nmiPending := rfl
@[simp] theorem State.setNmiDelay_nmiDelay (v : Nat) (s : State) : (s.setNmiDelay v).nmiDelay = v := rfl
@[simp] theorem State.setNmiDelay_mem (v : Nat) (s : State) : (s.setNmiDelay v).mem = s.mem := rfl
@[simp] theorem State.setNmiDelay_readOnly (v : Nat) (s : State) : (s.setNmiDelay v).readOnly = s.readOnly := rfl
@[simp] theorem State.setNmiDelay_regions (v : Nat) (s : State) : (s.setNmiDelay v).regions = s.regions := rfl
@[simp] theorem State.setNmiDelay_timers (v : Nat) (s : State) : (s.setNmiDelay v).timers = s.timers := rfl
@[simp] theorem State.setNmiDelay_script (v : Nat) (s : State) : (s.setNmiDelay v).script = s.script := rfl
@[simp] theorem State.setNmiDelay_answered (v : Nat) (s : State) : (s.setNmiDelay v).answered = s.answered := rfl
@[simp] theorem State.setNmiDelay_agenda (v : Nat) (s : State) : (s.setNmiDelay v).agenda = s.agenda := rfl
@[simp] theorem State.setNmiDelay_params (v : Nat) (s : State) : (s.setNmiDelay v).params = s.params := rfl

@[simp] theorem State.setMem_a (v : Memory) (s : State) : (s.setMem v).a = s.a := rfl
@[simp] theorem State.setMem_x (v : Memory) (s : State) : (s.setMem v).x = s.x := rfl
@[simp] theorem State.setMem_y (v : Memory) (s : State) : (s.setMem v).y = s.y := rfl
@[simp] theorem State.setMem_sp (v : Memory) (s : State) : (s.setMem v).sp = s.sp := rfl
@[simp] theorem State.setMem_p (v : Memory) (s : State) : (s.setMem v).p = s.p := rfl
@[simp] theorem State.setMem_pc (v : Memory) (s : State) : (s.setMem v).pc = s.pc := rfl
@[simp] theorem State.setMem_irqPending (v : Memory) (s : State) : (s.setMem v).irqPending = s.irqPending := rfl
@[simp] theorem State.setMem_nmiPending (v : Memory) (s : State) : (s.setMem v).nmiPending = s.nmiPending := rfl
@[simp] theorem State.setMem_nmiDelay (v : Memory) (s : State) : (s.setMem v).nmiDelay = s.nmiDelay := rfl
@[simp] theorem State.setMem_mem (v : Memory) (s : State) : (s.setMem v).mem = v := rfl
@[simp] theorem State.setMem_readOnly (v : Memory) (s : State) : (s.setMem v).readOnly = s.readOnly := rfl
@[simp] theorem State.setMem_regions (v : Memory) (s : State) : (s.setMem v).regions = s.regions := rfl
@[simp] theorem State.setMem_timers (v : Memory) (s : State) : (s.setMem v).timers = s.timers := rfl
@[simp] theorem State.setMem_script (v : Memory) (s : State) : (s.setMem v).script = s.script := rfl
@[simp] theorem State.setMem_answered (v : Memory) (s : State) : (s.setMem v).answered = s.answered := rfl
@[simp] theorem State.setMem_agenda (v : Memory) (s : State) : (s.setMem v).agenda = s.agenda := rfl
@[simp] theorem State.setMem_params (v : Memory) (s : State) : (s.setMem v).params = s.params := rfl

@[simp] theorem State.setReadOnly_a (v : Nat) (s : State) : (s.setReadOnly v).a = s.a := rfl
@[simp] theorem State.setReadOnly_x (v : Nat) (s : State) : (s.setReadOnly v).x = s.x := rfl
@[simp] theorem State.setReadOnly_y (v : Nat) (s : State) : (s.setReadOnly v).y = s.y := rfl
@[simp] theorem State.setReadOnly_sp (v : Nat) (s : State) : (s.setReadOnly v).sp = s.sp := rfl
@[simp] theorem State.setReadOnly_p (v : Nat) (s : State) : (s.setReadOnly v).p = s.p := rfl
@[simp] theorem State.setReadOnly_pc (v : Nat) (s : State) : (s.setReadOnly v).pc = s.pc := rfl
@[simp] theorem State.setReadOnly_irqPending (v : Nat) (s : State) : (s.setReadOnly v).irqPending = s.irqPending := rfl
@[simp] theorem State.setReadOnly_nmiPending (v : Nat) (s : State) : (s.setReadOnly v).nmiPending = s.nmiPending := rfl
@[simp] theorem State.setReadOnly_nmiDelay (v : Nat) (s : State) : (s.setReadOnly v).nmiDelay = s.nmiDelay := rfl
@[simp] theorem State.setReadOnly_mem (v : Nat) (s : State) : (s.setReadOnly v).mem = s.mem := rfl
@[simp] theorem State.setReadOnly_readOnly (v : Nat) (s : State) : (s.setReadOnly v).readOnly = v := rfl
@[simp] theorem State.setReadOnly_regions (v : Nat) (s : State) : (s.setReadOnly v).regions = s.regions := rfl
@[simp] theorem State.setReadOnly_timers (v : Nat) (s : State) : (s.setReadOnly v).timers = s.timers := rfl
@[simp] theorem State.setReadOnly_script (v : Nat) (s : State) : (s.setReadOnly v).script = s.script := rfl
@[simp] theorem State.setReadOnly_answered (v : Nat) (s : State) : (s.setReadOnly v).answered = s.answered := rfl
@[simp] theorem State.setReadOnly_agenda (v : Nat) (s : State) : (s.setReadOnly v).agenda = s.agenda := rfl
@[simp] theorem State.setReadOnly_params (v : Nat) (s : State) : (s.setReadOnly v).params = s.params := rfl

@[simp] theorem State.setRegions_a (v : List Region) (s : State) : (s.setRegions v).a = s.a := rfl
@[simp] theorem State.setRegions_x (v : List Region) (s : State) : (s.setRegions v).x = s.x := rfl
@[simp] theorem State.setRegions_y (v : List Region) (s : State) : (s.setRegions v).y = s.y := rfl
@[simp] theorem State.setRegions_sp (v : List Region) (s : State) : (s.setRegions v).sp = s.sp := rfl
@[simp] theorem State.setRegions_p (v : List Region) (s : State) : (s.setRegions v).p = s.p := rfl
@[simp] theorem State.setRegions_pc (v : List Region) (s : State) : (s.setRegions v).pc = s.pc := rfl
@[simp] theorem State.setRegions_irqPending (v : List Region) (s : State) : (s.setRegions v).irqPending = s.irqPending := rfl
@[simp] theorem State.setRegions_nmiPending (v : List Region) (s : State) : (s.setRegions v).nmiPending = s.nmiPending := rfl
@[simp] theorem State.setRegions_nmiDelay (v : List Region) (s : State) : (s.setRegions v).nmiDelay = s.nmiDelay := rfl
@[simp] theorem State.setRegions_mem (v : List Region) (s : State) : (s.setRegions v).mem = s.mem := rfl
@[simp] theorem State.setRegions_readOnly (v : List Region) (s : State) : (s.setRegions v).readOnly = s.readOnly := rfl
@[simp] theorem State.setRegions_regions (v : List Region) (s : State) : (s.setRegions v).regions = v := rfl
@[simp] theorem State.setRegions_timers (v : List Region) (s : State) : (s.setRegions v).timers = s.timers := rfl
@[simp] theorem State.setRegions_script (v : List Region) (s : State) : (s.setRegions v).script = s.script := rfl
@[simp] theorem State.setRegions_answered (v : List Region) (s : State) : (s.setRegions v).answered = s.answered := rfl
@[simp] theorem State.setRegions_agenda (v : List Region) (s : State) : (s.setRegions v).agenda = s.agenda := rfl
@[simp] theorem State.setRegions_params (v : List Region) (s : State) : (s.setRegions v).params = s.params := rfl

@[simp] theorem State.setTimers_a (v : List Timer) (s : State) : (s.setTimers v).a = s.a := rfl
@[simp] theorem State.setTimers_x (v : List Timer) (s : State) : (s.setTimers v).x = s.x := rfl
@[simp] theorem State.setTimers_y (v : List Timer) (s : State) : (s.setTimers v).y = s.y := rfl
@[simp] theorem State.setTimers_sp (v : List Timer) (s : State) : (s.setTimers v).sp = s.sp := rfl
@[simp] theorem State.setTimers_p (v : List Timer) (s : State) : (s.setTimers v).p = s.p := rfl
@[simp] theorem State.setTimers_pc (v : List Timer) (s : State) : (s.setTimers v).pc = s.pc := rfl
@[simp] theorem State.setTimers_irqPending (v : List Timer) (s : State) : (s.setTimers v).irqPending = s.irqPending := rfl
@[simp] theorem State.setTimers_nmiPending (v : List Timer) (s : State) : (s.setTimers v).nmiPending = s.nmiPending := rfl
@[simp] theorem State.setTimers_nmiDelay (v : List Timer) (s : State) : (s.setTimers v).nmiDelay = s.nmiDelay := rfl
@[simp] theorem State.setTimers_mem (v : List Timer) (s : State) : (s.setTimers v).mem = s.mem := rfl
@[simp] theorem State.setTimers_readOnly (v : List Timer) (s : State) : (s.setTimers v).readOnly = s.readOnly := rfl
@[simp] theorem State.setTimers_regions (v : List Timer) (s : State) : (s.setTimers v).regions = s.regions := rfl
@[simp] theorem State.setTimers_timers (v : List Timer) (s : State) : (s.setTimers v).timers = v := rfl
@[simp] theorem State.setTimers_script (v : List Timer) (s : State) : (s.setTimers v).script = s.script := rfl
@[simp] theorem State.setTimers_answered (v : List Timer) (s : State) : (s.setTimers v).answered = s.answered := rfl
@[simp] theorem State.setTimers_agenda (v : List Timer) (s : State) : (s.setTimers v).agenda = s.agenda := rfl
@[simp] theorem State.setTimers_params (v : List Timer) (s : State) : (s.setTimers v).params = s.params := rfl

@[simp] theorem State.setScript_a (v : List DeviceAnswer) (s : State) : (s.setScript v).a = s.a := rfl
@[simp] theorem State.setScript_x (v : List DeviceAnswer) (s : State) : (s.setScript v).x = s.x := rfl
@[simp] theorem State.setScript_y (v : List DeviceAnswer) (s : State) : (s.setScript v).y = s.y := rfl
@[simp] theorem State.setScript_sp (v : List DeviceAnswer) (s : State) : (s.setScript v).sp = s.sp := rfl
@[simp] theorem State.setScript_p (v : List DeviceAnswer) (s : State) : (s.setScript v).p = s.p := rfl
@[simp] theorem State.setScript_pc (v : List DeviceAnswer) (s : State) : (s.setScript v).pc = s.pc := rfl
@[simp] theorem State.setScript_irqPending (v : List DeviceAnswer) (s : State) : (s.setScript v).irqPending = s.irqPending := rfl
@[simp] theorem State.setScript_nmiPending (v : List DeviceAnswer) (s : State) : (s.setScript v).nmiPending = s.nmiPending := rfl
@[simp] theorem State.setScript_nmiDelay (v : List DeviceAnswer) (s : State) : (s.setScript v).nmiDelay = s.nmiDelay := rfl
@[simp] theorem State.setScript_mem (v : List DeviceAnswer) (s : State) : (s.setScript v).mem = s.mem := rfl
@[simp] theorem State.setScript_readOnly (v : List DeviceAnswer) (s : State) : (s.setScript v).readOnly = s.readOnly := rfl
@[simp] theorem State.setScript_regions (v : List DeviceAnswer) (s : State) : (s.setScript v).regions = s.regions := rfl
@[simp] theorem State.setScript_timers (v : List DeviceAnswer) (s : State) : (s.setScript v).timers = s.timers := rfl
@[simp] theorem State.setScript_script (v : List DeviceAnswer) (s : State) : (s.setScript v).script = v := rfl
@[simp] theorem State.setScript_answered (v : List DeviceAnswer) (s : State) : (s.setScript v).answered = s.answered := rfl
@[simp] theorem State.setScript_agenda (v : List DeviceAnswer) (s : State) : (s.setScript v).agenda = s.agenda := rfl
@[simp] theorem State.setScript_params (v : List DeviceAnswer) (s : State) : (s.setScript v).params = s.params := rfl

@[simp] theorem State.setAnswered_a (v : Nat) (s : State) : (s.setAnswered v).a = s.a := rfl
@[simp] theorem State.setAnswered_x (v : Nat) (s : State) : (s.setAnswered v).x = s.x := rfl
@[simp] theorem State.setAnswered_y (v : Nat) (s : State) : (s.setAnswered v).y = s.y := rfl
@[simp] theorem State.setAnswered_sp (v : Nat) (s : State) : (s.setAnswered v).sp = s.sp := rfl
@[simp] theorem State.setAnswered_p (v : Nat) (s : State) : (s.setAnswered v).p = s.p := rfl
@[simp] theorem State.setAnswered_pc (v : Nat) (s : State) : (s.setAnswered v).pc = s.pc := rfl
@[simp] theorem State.setAnswered_irqPending (v : Nat) (s : State) : (s.setAnswered v).irqPending = s.irqPending := rfl
@[simp] theorem State.setAnswered_nmiPending (v : Nat) (s : State) : (s.setAnswered v).nmiPending = s.nmiPending := rfl
@[simp] theorem State.setAnswered_nmiDelay (v : Nat) (s : State) : (s.setAnswered v).nmiDelay = s.nmiDelay := rfl
@[simp] theorem State.setAnswered_mem (v : Nat) (s : State) : (s.setAnswered v).mem = s.mem := rfl
@[simp] theorem State.setAnswered_readOnly (v : Nat) (s : State) : (s.setAnswered v).readOnly = s.readOnly := rfl
@[simp] theorem State.setAnswered_regions (v : Nat) (s : State) : (s.setAnswered v).regions = s.regions := rfl
@[simp] theorem State.setAnswered_timers (v : Nat) (s : State) : (s.setAnswered v).timers = s.timers := rfl
@[simp] theorem State.setAnswered_script (v : Nat) (s : State) : (s.setAnswered v).script = s.script := rfl
@[simp] theorem State.setAnswered_answered (v : Nat) (s : State) : (s.setAnswered v).answered = v := rfl
@[simp] theorem State.setAnswered_agenda (v : Nat) (s : State) : (s.setAnswered v).agenda = s.agenda := rfl
@[simp] theorem State.setAnswered_params (v : Nat) (s : State) : (s.setAnswered v).params = s.params := rfl

@[simp] theorem State.setAgenda_a (v : List Turn) (s : State) : (s.setAgenda v).a = s.a := rfl
@[simp] theorem State.setAgenda_x (v : List Turn) (s : State) : (s.setAgenda v).x = s.x := rfl
@[simp] theorem State.setAgenda_y (v : List Turn) (s : State) : (s.setAgenda v).y = s.y := rfl
@[simp] theorem State.setAgenda_sp (v : List Turn) (s : State) : (s.setAgenda v).sp = s.sp := rfl
@[simp] theorem State.setAgenda_p (v : List Turn) (s : State) : (s.setAgenda v).p = s.p := rfl
@[simp] theorem State.setAgenda_pc (v : List Turn) (s : State) : (s.setAgenda v).pc = s.pc := rfl
@[simp] theorem State.setAgenda_irqPending (v : List Turn) (s : State) : (s.setAgenda v).irqPending = s.irqPending := rfl
@[simp] theorem State.setAgenda_nmiPending (v : List Turn) (s : State) : (s.setAgenda v).nmiPending = s.nmiPending := rfl
@[simp] theorem State.setAgenda_nmiDelay (v : List Turn) (s : State) : (s.setAgenda v).nmiDelay = s.nmiDelay := rfl
@[simp] theorem State.setAgenda_mem (v : List Turn) (s : State) : (s.setAgenda v).mem = s.mem := rfl
@[simp] theorem State.setAgenda_readOnly (v : List Turn) (s : State) : (s.setAgenda v).readOnly = s.readOnly := rfl
@[simp] theorem State.setAgenda_regions (v : List Turn) (s : State) : (s.setAgenda v).regions = s.regions := rfl
@[simp] theorem State.setAgenda_timers (v : List Turn) (s : State) : (s.setAgenda v).timers = s.timers := rfl
@[simp] theorem State.setAgenda_script (v : List Turn) (s : State) : (s.setAgenda v).script = s.script := rfl
@[simp] theorem State.setAgenda_answered (v : List Turn) (s : State) : (s.setAgenda v).answered = s.answered := rfl
@[simp] theorem State.setAgenda_agenda (v : List Turn) (s : State) : (s.setAgenda v).agenda = v := rfl
@[simp] theorem State.setAgenda_params (v : List Turn) (s : State) : (s.setAgenda v).params = s.params := rfl

/-! Writing a field with the value it has changes nothing, and the later of two writes of a field wins. -/

@[simp] theorem State.setA_self (s : State) : s.setA s.a = s := rfl
@[simp] theorem State.setA_setA (v w : Byte) (s : State) : (s.setA v).setA w = s.setA w := rfl
@[simp] theorem State.setX_self (s : State) : s.setX s.x = s := rfl
@[simp] theorem State.setX_setX (v w : Byte) (s : State) : (s.setX v).setX w = s.setX w := rfl
@[simp] theorem State.setY_self (s : State) : s.setY s.y = s := rfl
@[simp] theorem State.setY_setY (v w : Byte) (s : State) : (s.setY v).setY w = s.setY w := rfl
@[simp] theorem State.setSp_self (s : State) : s.setSp s.sp = s := rfl
@[simp] theorem State.setSp_setSp (v w : Byte) (s : State) : (s.setSp v).setSp w = s.setSp w := rfl
@[simp] theorem State.setP_self (s : State) : s.setP s.p = s := rfl
@[simp] theorem State.setP_setP (v w : Byte) (s : State) : (s.setP v).setP w = s.setP w := rfl
@[simp] theorem State.setPc_self (s : State) : s.setPc s.pc = s := rfl
@[simp] theorem State.setPc_setPc (v w : Addr) (s : State) : (s.setPc v).setPc w = s.setPc w := rfl
@[simp] theorem State.setIrqPending_self (s : State) : s.setIrqPending s.irqPending = s := rfl
@[simp] theorem State.setIrqPending_setIrqPending (v w : Bool) (s : State) : (s.setIrqPending v).setIrqPending w = s.setIrqPending w := rfl
@[simp] theorem State.setNmiPending_self (s : State) : s.setNmiPending s.nmiPending = s := rfl
@[simp] theorem State.setNmiPending_setNmiPending (v w : Bool) (s : State) : (s.setNmiPending v).setNmiPending w = s.setNmiPending w := rfl
@[simp] theorem State.setNmiDelay_self (s : State) : s.setNmiDelay s.nmiDelay = s := rfl
@[simp] theorem State.setNmiDelay_setNmiDelay (v w : Nat) (s : State) : (s.setNmiDelay v).setNmiDelay w = s.setNmiDelay w := rfl
@[simp] theorem State.setMem_self (s : State) : s.setMem s.mem = s := rfl
@[simp] theorem State.setMem_setMem (v w : Memory) (s : State) : (s.setMem v).setMem w = s.setMem w := rfl
@[simp] theorem State.setReadOnly_self (s : State) : s.setReadOnly s.readOnly = s := rfl
@[simp] theorem State.setReadOnly_setReadOnly (v w : Nat) (s : State) : (s.setReadOnly v).setReadOnly w = s.setReadOnly w := rfl
@[simp] theorem State.setRegions_self (s : State) : s.setRegions s.regions = s := rfl
@[simp] theorem State.setRegions_setRegions (v w : List Region) (s : State) : (s.setRegions v).setRegions w = s.setRegions w := rfl
@[simp] theorem State.setTimers_self (s : State) : s.setTimers s.timers = s := rfl
@[simp] theorem State.setTimers_setTimers (v w : List Timer) (s : State) : (s.setTimers v).setTimers w = s.setTimers w := rfl
@[simp] theorem State.setScript_self (s : State) : s.setScript s.script = s := rfl
@[simp] theorem State.setScript_setScript (v w : List DeviceAnswer) (s : State) : (s.setScript v).setScript w = s.setScript w := rfl
@[simp] theorem State.setAnswered_self (s : State) : s.setAnswered s.answered = s := rfl
@[simp] theorem State.setAnswered_setAnswered (v w : Nat) (s : State) : (s.setAnswered v).setAnswered w = s.setAnswered w := rfl
@[simp] theorem State.setAgenda_self (s : State) : s.setAgenda s.agenda = s := rfl
@[simp] theorem State.setAgenda_setAgenda (v w : List Turn) (s : State) : (s.setAgenda v).setAgenda w = s.setAgenda w := rfl

/-- Two states that agree on every field are equal. -/
theorem State.ext_fields {s t : State}
    (h_a : s.a = t.a)
    (h_x : s.x = t.x)
    (h_y : s.y = t.y)
    (h_sp : s.sp = t.sp)
    (h_p : s.p = t.p)
    (h_pc : s.pc = t.pc)
    (h_irqPending : s.irqPending = t.irqPending)
    (h_nmiPending : s.nmiPending = t.nmiPending)
    (h_nmiDelay : s.nmiDelay = t.nmiDelay)
    (h_mem : s.mem = t.mem)
    (h_readOnly : s.readOnly = t.readOnly)
    (h_regions : s.regions = t.regions)
    (h_timers : s.timers = t.timers)
    (h_script : s.script = t.script)
    (h_answered : s.answered = t.answered)
    (h_agenda : s.agenda = t.agenda)
    (h_params : s.params = t.params)
    : s = t := by
  cases s
  cases t
  simp_all

end Sys2Proof.Machine
end

