-- ==== Sys2Proof/Laws/Flags.lean ====
section
/-! SUPPORT. Reading a flag of P after each flag computation. -/

namespace Sys2Proof.Machine

theorem Flag.bit_lt (f : Flag) : f.bit < 8 := by cases f <;> decide

theorem Flag.bit_inj {f g : Flag} (h : f.bit = g.bit) : f = g := by
  cases f <;> cases g <;> simp_all [Flag.bit]

theorem Flag.mask_getLsbD (f : Flag) (k : Nat) : f.mask.getLsbD k = decide (k = f.bit) := by
  have h := f.bit_lt
  unfold Flag.mask
  rw [BitVec.getLsbD_shiftLeft]
  by_cases hk : k = f.bit
  · subst hk; simp [h]
  · by_cases h2 : k < f.bit
    · simp [hk, h2]
    · have : k - f.bit ≠ 0 := by omega
      simp [hk, this]

/-- Reading any flag after one flag was written. -/
theorem getFlag_putFlag (f g : Flag) (v : Bool) (p : Byte) :
    getFlag f (putFlag g v p) = if f = g then v else getFlag f p := by
  have hf := f.bit_lt
  have hfg : (f.bit = g.bit) ↔ f = g := ⟨Flag.bit_inj, fun h => h ▸ rfl⟩
  unfold getFlag putFlag
  cases v
  · simp only [Bool.false_eq_true, if_false, BitVec.getLsbD_and, BitVec.getLsbD_not, Flag.mask_getLsbD, hfg]
    by_cases h : f = g <;> simp [h, hf, g.bit_lt]
  · simp only [if_true, BitVec.getLsbD_or, Flag.mask_getLsbD, hfg]
    by_cases h : f = g <;> simp [h]

@[simp] theorem getFlag_putFlag_same (f : Flag) (v : Bool) (p : Byte) : getFlag f (putFlag f v p) = v := by
  simp [getFlag_putFlag]

theorem getFlag_putFlag_other {f g : Flag} (h : f ≠ g) (v : Bool) (p : Byte) :
    getFlag f (putFlag g v p) = getFlag f p := by
  simp [getFlag_putFlag, h]

/-- Two status words with the same flags are equal (R23: the eight flags are the eight bits). -/
theorem status_ext {p q : Byte} (h : ∀ f, getFlag f p = getFlag f q) : p = q := by
  apply BitVec.eq_of_getLsbD_eq
  intro i hi
  have hc := h .c; have hz := h .z; have hI := h .i; have hd := h .d
  have hb := h .b; have hu := h .u; have hv := h .v; have hn := h .n
  simp only [getFlag, Flag.bit] at hc hz hI hd hb hu hv hn
  interval_cases i <;> assumption

@[simp] theorem getFlag_putZN (f : Flag) (v p : Byte) :
    getFlag f (putZN v p) = if f = .n then v.getLsbD 7 else if f = .z then (v == 0) else getFlag f p := by
  simp only [putZN, getFlag_putFlag]

@[simp] theorem getFlag_putSum (f : Flag) (r : Sum) (p : Byte) :
    getFlag f (putSum r p) = if f = .n then r.result.getLsbD 7 else if f = .z then (r.result == 0)
      else if f = .v then r.overflow else if f = .c then r.carry else getFlag f p := by
  simp only [putSum, getFlag_putZN, getFlag_putFlag]

@[simp] theorem getFlag_putCompare (f : Flag) (reg m p : Byte) :
    getFlag f (putCompare reg m p) = if f = .n then (reg - m).getLsbD 7 else if f = .z then (reg == m)
      else if f = .c then decide (reg.toNat ≥ m.toNat) else getFlag f p := by
  simp only [putCompare, getFlag_putFlag]

@[simp] theorem getFlag_putBit (f : Flag) (a m p : Byte) :
    getFlag f (putBit a m p) = if f = .v then m.getLsbD 6 else if f = .n then m.getLsbD 7
      else if f = .z then ((a &&& m) == 0) else getFlag f p := by
  simp only [putBit, getFlag_putFlag]

@[simp] theorem getFlag_putTest (f : Flag) (a m p : Byte) :
    getFlag f (putTest a m p) = if f = .z then ((a &&& m) == 0) else getFlag f p := by
  simp only [putTest, getFlag_putFlag]

@[simp] theorem getFlag_putShift (f : Flag) (k : Shift) (v p : Byte) :
    getFlag f (putShift k v p) = if f = .n then (shiftResult k v p).getLsbD 7
      else if f = .z then (shiftResult k v p == 0) else if f = .c then shiftCarry k v else getFlag f p := by
  simp only [putShift, getFlag_putZN, getFlag_putFlag]

@[simp] theorem getFlag_statusFrom (f : Flag) (v : Byte) :
    getFlag f (statusFrom v) = if f = .u then true else getFlag f v := by
  simp only [statusFrom, getFlag, BitVec.getLsbD_or, Flag.mask_getLsbD]
  by_cases h : f = .u
  · subst h; simp
  · have : f.bit ≠ Flag.u.bit := fun e => h (Flag.bit_inj e)
    simp [h, this]

end Sys2Proof.Machine
end

