-- ==== Sys2Proof/Laws/Memory.lean ====
section
/-! SUPPORT. What reading and writing one byte of memory do: read after write, the canonical form kept by every write, and the read-only
bitmap's independence of memory. -/

namespace Sys2Proof.Machine

theorem Memory.read_filter_other (m : Memory) {n k : Nat} (h : k ≠ n) :
    Memory.read (m.filter (fun c => c.1 ≠ n)) k = Memory.read m k := by
  induction m with
  | nil => rfl
  | cons c m ih =>
    obtain ⟨a, b⟩ := c
    by_cases ha : a = n
    · have hk : ¬ n = k := fun e => h e.symm
      rw [List.filter_cons_of_neg (by simp [ha]), ih]
      simp only [Memory.read, ha, if_neg hk]
    · rw [List.filter_cons_of_pos (by simp [ha])]
      simp only [Memory.read, ih]

theorem Memory.read_filter_same (m : Memory) (n : Nat) :
    Memory.read (m.filter (fun c => c.1 ≠ n)) n = unlistedByte := by
  induction m with
  | nil => rfl
  | cons c m ih =>
    obtain ⟨a, b⟩ := c
    by_cases ha : a = n
    · rw [List.filter_cons_of_neg (by simp [ha]), ih]
    · rw [List.filter_cons_of_pos (by simp [ha])]
      simp only [Memory.read, if_neg ha, ih]

theorem Memory.read_insert (m : Memory) (n k : Nat) (v : Byte) (h : ∀ c ∈ m, c.1 ≠ n) :
    Memory.read (Memory.insert n v m) k = if k = n then v else Memory.read m k := by
  induction m with
  | nil => simp [Memory.insert, Memory.read, eq_comm]
  | cons c m ih =>
    obtain ⟨a, b⟩ := c
    have ha : a ≠ n := h (a, b) (by simp)
    have ih := ih (fun c hc => h c (by simp [hc]))
    unfold Memory.insert
    split
    · simp only [Memory.read, ih]
      by_cases hk : a = k
      · subst hk; simp [ha]
      · simp [hk]
    · simp only [Memory.read, eq_comm]

/-- Reading the byte just written. -/
@[simp] theorem Memory.read_write_same (m : Memory) (n : Nat) (v : Byte) : (m.write n v).read n = v := by
  unfold Memory.write
  by_cases hv : v = unlistedByte
  · simp only [hv, if_true]
    exact Memory.read_filter_same m n
  · simp only [hv, if_false]
    rw [Memory.read_insert _ _ _ _ (by simp)]
    simp

/-- Reading any other byte. -/
theorem Memory.read_write_other (m : Memory) {n k : Nat} (v : Byte) (h : k ≠ n) :
    (m.write n v).read k = m.read k := by
  unfold Memory.write
  by_cases hv : v = unlistedByte
  · simp only [hv, if_true]
    exact Memory.read_filter_other m h
  · simp only [hv, if_false]
    rw [Memory.read_insert _ _ _ _ (by simp), if_neg h, Memory.read_filter_other m h]

theorem Memory.mem_insert {m : Memory} {n : Nat} {v : Byte} {c : Host.Cell} :
    c ∈ Memory.insert n v m ↔ c = (n, v) ∨ c ∈ m := by
  induction m with
  | nil => simp [Memory.insert]
  | cons d m ih =>
    obtain ⟨a, b⟩ := d
    unfold Memory.insert
    split
    · simp only [List.mem_cons, ih]
      tauto
    · simp

theorem Memory.insert_rising {m : Memory} {n : Nat} {v : Byte} (hm : m.Pairwise (fun c d => c.1 < d.1))
    (hn : ∀ c ∈ m, c.1 ≠ n) : (Memory.insert n v m).Pairwise (fun c d => c.1 < d.1) := by
  induction m with
  | nil => simp [Memory.insert]
  | cons d m ih =>
    obtain ⟨a, b⟩ := d
    rw [List.pairwise_cons] at hm
    have ha : a ≠ n := hn (a, b) (by simp)
    unfold Memory.insert
    split
    · rename_i hlt
      rw [List.pairwise_cons]
      refine ⟨?_, ih hm.2 (fun c hc => hn c (by simp [hc]))⟩
      intro c hc
      rcases Memory.mem_insert.1 hc with rfl | hc
      · exact hlt
      · exact hm.1 c hc
    · rename_i hge
      have hlt : n < a := by omega
      rw [List.pairwise_cons]
      refine ⟨?_, List.pairwise_cons.2 hm⟩
      intro c hc
      rcases List.mem_cons.1 hc with rfl | hc
      · exact hlt
      · exact lt_trans hlt (hm.1 c hc)

/-- A write inside the address space keeps the canonical form. -/
theorem Memory.write_wf {m : Memory} {n : Nat} (v : Byte) (hm : m.wf) (hn : n < 65536) : (m.write n v).wf := by
  have hf : (m.filter (fun c => c.1 ≠ n)).Pairwise (fun c d => c.1 < d.1) := hm.1.filter _
  have hk : ∀ c ∈ m.filter (fun c => c.1 ≠ n), c.1 < 65536 ∧ c.2 ≠ unlistedByte :=
    fun c hc => hm.2 c (List.mem_of_mem_filter hc)
  unfold Memory.write
  by_cases hv : v = unlistedByte
  · simp only [hv, if_true]
    exact ⟨hf, hk⟩
  · simp only [hv, if_false]
    refine ⟨Memory.insert_rising hf (by simp), fun c hc => ?_⟩
    rcases Memory.mem_insert.1 hc with rfl | hc
    · exact ⟨hn, hv⟩
    · exact hk c hc

@[simp] theorem State.memByte_setMem (addr : Addr) (m : Memory) (s : State) :
    (s.setMem m).memByte addr = m.read addr.toNat := rfl

@[simp] theorem State.memStore_mem (addr : Addr) (v : Byte) (s : State) :
    (s.memStore addr v).mem = s.mem.write addr.toNat v := rfl

/-- Storing a byte and reading it back. -/
@[simp] theorem State.memByte_memStore_same (addr : Addr) (v : Byte) (s : State) :
    (s.memStore addr v).memByte addr = v := by
  simp [State.memStore, State.memByte]

/-- Storing a byte leaves every other address as it was. -/
theorem State.memByte_memStore_other {a addr : Addr} (v : Byte) (s : State) (h : a ≠ addr) :
    (s.memStore addr v).memByte a = s.memByte a :=
  Memory.read_write_other s.mem v (fun e => h (BitVec.eq_of_toNat_eq e))

theorem State.memStore_wf {s : State} (addr : Addr) (v : Byte) (h : s.mem.wf) : (s.memStore addr v).mem.wf :=
  Memory.write_wf v h addr.isLt

/-- A store changes no field but memory. -/
theorem State.memStore_eq (addr : Addr) (v : Byte) (s : State) :
    s.memStore addr v = s.setMem (s.mem.write addr.toNat v) := rfl

@[simp] theorem State.memStore_isReadOnly (a addr : Addr) (v : Byte) (s : State) :
    (s.memStore addr v).isReadOnly a = s.isReadOnly a := rfl

/-- Direct image loading keeps the canonical form. -/
theorem loadImage_wf (bytes : List Byte) (start : Addr) (s : State) (h : s.mem.wf) :
    (loadImage start bytes s).mem.wf := by
  induction bytes generalizing start s with
  | nil => exact h
  | cons b bytes ih => exact ih _ _ (State.memStore_wf start b h)

/-- Direct image loading changes no field but memory. -/
theorem loadImage_fields (bytes : List Byte) (start : Addr) (s : State) :
    loadImage start bytes s = s.setMem (loadImage start bytes s).mem := by
  induction bytes generalizing start s with
  | nil => rfl
  | cons b bytes ih =>
    unfold loadImage
    rw [ih]
    rfl

/-- Marking read-only does not touch memory. -/
@[simp] theorem markReadOnly_mem (first last : Addr) (s : State) : (markReadOnly first last s).mem = s.mem := rfl

end Sys2Proof.Machine
end

