-- ==== Sys2Proof/Laws/Bus.lean ====
section
/-! SUPPORT. What the Bus and the callbacks of devices can change: a Bus read changes only what devices may change (OnlyDevices), a Bus write
besides that at most the one byte; and both leave the registers alone, so that they commute with writing a register. -/

namespace Sys2Proof.Machine

/-- `s` with the registers and the agenda of `u`: what the Bus neither reads nor writes. -/
def State.regsOf (u s : State) : State :=
  { s with a := u.a, x := u.x, y := u.y, sp := u.sp, pc := u.pc, agenda := u.agenda }

theorem State.regsOf_self (s : State) : s.regsOf s = s := rfl

@[simp] theorem State.regsOf_a (u s : State) : (State.regsOf u s).a = u.a := rfl
@[simp] theorem State.regsOf_x (u s : State) : (State.regsOf u s).x = u.x := rfl
@[simp] theorem State.regsOf_y (u s : State) : (State.regsOf u s).y = u.y := rfl
@[simp] theorem State.regsOf_sp (u s : State) : (State.regsOf u s).sp = u.sp := rfl
@[simp] theorem State.regsOf_pc (u s : State) : (State.regsOf u s).pc = u.pc := rfl
@[simp] theorem State.regsOf_agenda (u s : State) : (State.regsOf u s).agenda = u.agenda := rfl
@[simp] theorem State.regsOf_p (u s : State) : (State.regsOf u s).p = s.p := rfl
@[simp] theorem State.regsOf_mem (u s : State) : (State.regsOf u s).mem = s.mem := rfl
@[simp] theorem State.regsOf_regions (u s : State) : (State.regsOf u s).regions = s.regions := rfl
@[simp] theorem State.regsOf_readOnly (u s : State) : (State.regsOf u s).readOnly = s.readOnly := rfl
@[simp] theorem State.regsOf_params (u s : State) : (State.regsOf u s).params = s.params := rfl
@[simp] theorem State.regsOf_timers (u s : State) : (State.regsOf u s).timers = s.timers := rfl
@[simp] theorem State.regsOf_memByte (addr : Addr) (u s : State) :
    (State.regsOf u s).memByte addr = s.memByte addr := rfl
@[simp] theorem State.regsOf_isReadOnly (addr : Addr) (u s : State) :
    (State.regsOf u s).isReadOnly addr = s.isReadOnly addr := rfl
@[simp] theorem State.regsOf_matching (addr : Addr) (u s : State) :
    (State.regsOf u s).matching addr = s.matching addr := rfl

/-! ### OnlyDevices -/

theorem OnlyDevices.refl (s : State) : OnlyDevices s s :=
  ⟨rfl, rfl, rfl, rfl, rfl, fun _ _ => rfl, id, id, id, .inl rfl, rfl, rfl, rfl, rfl, rfl, rfl⟩

theorem OnlyDevices.trans {s t u : State} (h : OnlyDevices s t) (k : OnlyDevices t u) : OnlyDevices s u where
  a := k.a.trans h.a
  x := k.x.trans h.x
  y := k.y.trans h.y
  sp := k.sp.trans h.sp
  pc := k.pc.trans h.pc
  flags f hf := (k.flags f hf).trans (h.flags f hf)
  breakFlag e := h.breakFlag (k.breakFlag e)
  irq e := k.irq (h.irq e)
  nmi e := k.nmi (h.nmi e)
  delay := by
    rcases k.delay with e | e
    · rw [e]; exact h.delay
    · exact .inr e
  mem := k.mem.trans h.mem
  readOnly := k.readOnly.trans h.readOnly
  regions := k.regions.trans h.regions
  instances := k.instances.trans h.instances
  agenda := k.agenda.trans h.agenda
  params := k.params.trans h.params

/-- What only devices changed has the registers of the state before. -/
theorem OnlyDevices.regsOf {s t : State} (h : OnlyDevices s t) : State.regsOf s t = t := by
  unfold State.regsOf
  rw [← h.a, ← h.x, ← h.y, ← h.sp, ← h.pc, ← h.agenda]

theorem OnlyDevices.memByte {s t : State} (h : OnlyDevices s t) (addr : Addr) : t.memByte addr = s.memByte addr := by
  unfold State.memByte; rw [h.mem]

theorem OnlyDevices.isReadOnly {s t : State} (h : OnlyDevices s t) (addr : Addr) :
    t.isReadOnly addr = s.isReadOnly addr := by
  unfold State.isReadOnly; rw [h.readOnly]

theorem OnlyDevices.matching {s t : State} (h : OnlyDevices s t) (addr : Addr) : t.matching addr = s.matching addr := by
  unfold State.matching; rw [h.regions]

theorem onlyDevices_clearBreak (s : State) : OnlyDevices s (s.setP (putFlag .b false s.p)) where
  a := rfl
  x := rfl
  y := rfl
  sp := rfl
  pc := rfl
  flags f hf := by simp [getFlag_putFlag_other hf]
  breakFlag e := by simp at e
  irq e := e
  nmi e := e
  delay := .inl rfl
  mem := rfl
  readOnly := rfl
  regions := rfl
  instances := rfl
  agenda := rfl
  params := rfl

theorem assertIrq_onlyDevices (s : State) : OnlyDevices s (assertIrq s) :=
  (⟨rfl, rfl, rfl, rfl, rfl, fun _ _ => rfl, id, fun _ => rfl, id, .inl rfl, rfl, rfl, rfl, rfl, rfl, rfl⟩ :
    OnlyDevices s (s.setIrqPending true)).trans (onlyDevices_clearBreak _)

theorem assertNmi_onlyDevices (s : State) : OnlyDevices s (assertNmi s) :=
  (⟨rfl, rfl, rfl, rfl, rfl, fun _ _ => rfl, id, id, fun _ => rfl, .inl rfl, rfl, rfl, rfl, rfl, rfl, rfl⟩ :
    OnlyDevices s (s.setNmiPending true)).trans (onlyDevices_clearBreak _)

theorem armDelayedNmi_onlyDevices (s : State) : OnlyDevices s (armDelayedNmi s) :=
  ⟨rfl, rfl, rfl, rfl, rfl, fun _ _ => rfl, id, id, id, .inr rfl, rfl, rfl, rfl, rfl, rfl, rfl⟩

theorem setTimers_onlyDevices {s : State} {ts : List Timer} (h : ts.length = s.timers.length) :
    OnlyDevices s (s.setTimers ts) :=
  ⟨rfl, rfl, rfl, rfl, rfl, fun _ _ => rfl, id, id, id, .inl rfl, rfl, rfl, rfl, h, rfl, rfl⟩

theorem modifyTimer_onlyDevices (i : Nat) (f : Timer → Timer) (s : State) : OnlyDevices s (s.modifyTimer i f) :=
  setTimers_onlyDevices (List.length_modify ..)

theorem runInput_onlyDevices (c : CoreInput) (s : State) : OnlyDevices s (runInput c s) := by
  cases c with
  | assertIrq => exact assertIrq_onlyDevices s
  | assertNmi => exact assertNmi_onlyDevices s
  | armDelayedNmi => exact armDelayedNmi_onlyDevices s
  | setInputPort i port op mask => exact modifyTimer_onlyDevices ..

/-- The inputs of a callback run one after another, in the answer's order. -/
theorem runInputs_eq_foldl (cs : List CoreInput) (s : State) : runInputs cs s = cs.foldl (fun u c => runInput c u) s := by
  induction cs generalizing s with
  | nil => rfl
  | cons c cs ih => exact ih _

theorem runInputs_onlyDevices (cs : List CoreInput) (s : State) : OnlyDevices s (runInputs cs s) := by
  induction cs generalizing s with
  | nil => exact .refl s
  | cons c cs ih => exact (runInput_onlyDevices c s).trans (ih _)

theorem takeAnswer_onlyDevices (device : Nat) (addr : Addr) (written : Option Byte) (s : State) :
    OnlyDevices s (takeAnswer device addr written s).2 := by
  unfold takeAnswer
  split <;> exact ⟨rfl, rfl, rfl, rfl, rfl, fun _ _ => rfl, id, id, id, .inl rfl, rfl, rfl, rfl, rfl, rfl, rfl⟩

theorem readCallback_onlyDevices (client : Client) (first addr : Addr) (s : State) :
    OnlyDevices s (readCallback client first addr s).2 := by
  unfold readCallback
  cases client with
  | timer i =>
    dsimp only
    split
    · exact setTimers_onlyDevices (List.length_set ..)
    · exact .refl s
  | external device => exact (takeAnswer_onlyDevices ..).trans (runInputs_onlyDevices ..)

theorem writeCallback_onlyDevices (client : Client) (first addr : Addr) (v : Byte) (s : State) :
    OnlyDevices s (writeCallback client first addr v s) := by
  unfold writeCallback
  cases client with
  | timer i => exact modifyTimer_onlyDevices ..
  | external device => exact (takeAnswer_onlyDevices ..).trans (runInputs_onlyDevices ..)

theorem readRegions_onlyDevices (addr : Addr) (rs : List Region) (s : State) :
    OnlyDevices s (readRegions addr rs s).2 := by
  induction rs generalizing s with
  | nil => exact .refl s
  | cons r rs ih =>
    unfold readRegions
    split
    · exact (readCallback_onlyDevices ..).trans (ih _)
    · exact ih s

/-- A Bus read changes only what devices may change. -/
theorem busRead_onlyDevices (addr : Addr) (s : State) : OnlyDevices s (busRead addr s).2 := by
  unfold busRead
  split
  · exact .refl s
  · dsimp only
    split <;> exact readRegions_onlyDevices ..

theorem busReadWord_onlyDevices (addr : Addr) (s : State) : OnlyDevices s (busReadWord addr s).2 :=
  (busRead_onlyDevices ..).trans (busRead_onlyDevices ..)

/-- A Bus read of an address that no region matches. -/
theorem busRead_unmatched {addr : Addr} {s : State} (h : s.matching addr = []) :
    busRead addr s = (s.memByte addr, s) := by
  unfold busRead; rw [h]

/-! ### Writes -/

/-- `t` differs from `s` at most in what devices may change and in the byte at `addr`, which is then `v`. -/
structure Stored (addr : Addr) (v : Byte) (s t : State) : Prop where
  devices : OnlyDevices s (t.setMem s.mem)
  memory : t.mem = s.mem ∨ t.mem = s.mem.write addr.toNat v

theorem Memory.filter_write (m : Memory) (n : Nat) (v : Byte) :
    (m.write n v).filter (fun c => c.1 ≠ n) = m.filter (fun c => c.1 ≠ n) := by
  unfold Memory.write
  split
  · simp [List.filter_filter]
  · have : ∀ l : Memory, (Memory.insert n v l).filter (fun c => c.1 ≠ n) = l.filter (fun c => c.1 ≠ n) := by
      intro l
      induction l with
      | nil => simp [Memory.insert]
      | cons c l ih =>
        unfold Memory.insert
        split
        · rw [List.filter_cons, List.filter_cons, ih]
        · rw [List.filter_cons_of_neg (by simp)]
    rw [this, List.filter_filter]
    simp

/-- Writing a byte twice is writing it once. -/
@[simp] theorem Memory.write_write (m : Memory) (n : Nat) (v w : Byte) : (m.write n v).write n w = m.write n w := by
  have h := Memory.filter_write m n v
  rw [Memory.write.eq_1 (m.write n v) n w, h]
  rfl

theorem Stored.refl (addr : Addr) (v : Byte) (s : State) : Stored addr v s s := ⟨.refl s, .inl rfl⟩

theorem Stored.ofDevices {addr : Addr} {v : Byte} {s t : State} (h : OnlyDevices s t) : Stored addr v s t where
  devices := by
    have : t.setMem s.mem = t := by rw [← h.mem]; rfl
    rw [this]; exact h
  memory := .inl h.mem

theorem Stored.store (addr : Addr) (v : Byte) (s : State) : Stored addr v s (s.memStore addr v) := ⟨.refl s, .inr rfl⟩

theorem OnlyDevices.setMem {s t : State} (h : OnlyDevices s t) (m : Memory) : OnlyDevices (s.setMem m) (t.setMem m) :=
  ⟨h.a, h.x, h.y, h.sp, h.pc, h.flags, h.breakFlag, h.irq, h.nmi, h.delay, rfl, h.readOnly, h.regions, h.instances, h.agenda, h.params⟩

theorem Stored.trans {addr : Addr} {v : Byte} {s t u : State} (h : Stored addr v s t) (k : Stored addr v t u) :
    Stored addr v s u where
  devices := by
    have := k.devices.setMem s.mem
    exact h.devices.trans this
  memory := by
    rcases k.memory with e | e <;> rcases h.memory with f | f <;> rw [e, f] <;> simp

theorem writeRegions_stored (addr : Addr) (v : Byte) (rs : List Region) (s : State) :
    Stored addr v s (writeRegions addr v rs s) := by
  induction rs generalizing s with
  | nil => exact .refl ..
  | cons r rs ih =>
    unfold writeRegions
    refine Stored.trans ?_ (ih _)
    split <;> split
    · exact (Stored.store ..).trans (.ofDevices (writeCallback_onlyDevices ..))
    · exact .ofDevices (writeCallback_onlyDevices ..)
    · exact .store ..
    · exact .refl ..

/-- A Bus write changes what devices may change and at most the one byte. -/
theorem busWrite_stored (addr : Addr) (v : Byte) (s : State) : Stored addr v s (busWrite addr v s) := by
  unfold busWrite
  dsimp only
  split
  · exact writeRegions_stored ..
  · exact (writeRegions_stored ..).trans (.store ..)

namespace Stored

variable {addr : Addr} {v : Byte} {s t : State}

theorem a (h : Stored addr v s t) : t.a = s.a := h.devices.a
theorem x (h : Stored addr v s t) : t.x = s.x := h.devices.x
theorem y (h : Stored addr v s t) : t.y = s.y := h.devices.y
theorem sp (h : Stored addr v s t) : t.sp = s.sp := h.devices.sp
theorem pc (h : Stored addr v s t) : t.pc = s.pc := h.devices.pc
theorem flags (h : Stored addr v s t) (f : Flag) (hf : f ≠ .b) : getFlag f t.p = getFlag f s.p := h.devices.flags f hf
theorem breakFlag (h : Stored addr v s t) : getFlag .b t.p = true → getFlag .b s.p = true := h.devices.breakFlag
theorem irq (h : Stored addr v s t) : s.irqPending = true → t.irqPending = true := h.devices.irq
theorem nmi (h : Stored addr v s t) : s.nmiPending = true → t.nmiPending = true := h.devices.nmi
theorem delay (h : Stored addr v s t) : t.nmiDelay = s.nmiDelay ∨ t.nmiDelay = Config.delayedNmiStart := h.devices.delay
theorem readOnly (h : Stored addr v s t) : t.readOnly = s.readOnly := h.devices.readOnly
theorem regions (h : Stored addr v s t) : t.regions = s.regions := h.devices.regions
theorem instances (h : Stored addr v s t) : t.timers.length = s.timers.length := h.devices.instances
theorem agenda (h : Stored addr v s t) : t.agenda = s.agenda := h.devices.agenda
theorem params (h : Stored addr v s t) : t.params = s.params := h.devices.params

/-- Every other byte is as it was. -/
theorem memByte_other (h : Stored addr v s t) {k : Addr} (hk : k ≠ addr) : t.memByte k = s.memByte k := by
  unfold State.memByte
  rcases h.memory with e | e <;> rw [e]
  exact Memory.read_write_other _ _ (fun e => hk (BitVec.eq_of_toNat_eq e))

/-- The byte itself is as it was, or the byte written. -/
theorem memByte_same (h : Stored addr v s t) : t.memByte addr = s.memByte addr ∨ t.memByte addr = v := by
  unfold State.memByte
  rcases h.memory with e | e <;> rw [e] <;> simp

theorem wf (h : Stored addr v s t) (hm : s.mem.wf) : t.mem.wf := by
  rcases h.memory with e | e <;> rw [e]
  · exact hm
  · exact Memory.write_wf v hm addr.isLt

theorem isReadOnly (h : Stored addr v s t) (k : Addr) : t.isReadOnly k = s.isReadOnly k := by
  unfold State.isReadOnly; rw [h.readOnly]

theorem matching (h : Stored addr v s t) (k : Addr) : t.matching k = s.matching k := by
  unfold State.matching; rw [h.regions]

theorem regsOf (h : Stored addr v s t) : State.regsOf s t = t := by
  unfold State.regsOf
  rw [← h.a, ← h.x, ← h.y, ← h.sp, ← h.pc, ← h.agenda]

end Stored

/-- A byte that is not read-only holds the value written, whatever regions match (R59). -/
theorem busWrite_memByte_same {addr : Addr} {v : Byte} {s : State} (h : s.isReadOnly addr = false) :
    (busWrite addr v s).memByte addr = v := by
  unfold busWrite
  dsimp only
  rw [(writeRegions_stored ..).isReadOnly, h]
  simp

/-- A Bus write of an address that no region matches. -/
theorem busWrite_unmatched {addr : Addr} {v : Byte} {s : State} (h : s.matching addr = []) :
    busWrite addr v s = if s.isReadOnly addr then s else s.memStore addr v := by
  unfold busWrite; rw [h]; rfl

/-! ### The Bus does not depend on the registers -/

theorem runInput_regsOf (c : CoreInput) (u s : State) :
    runInput c (State.regsOf u s) = State.regsOf u (runInput c s) := by cases c <;> rfl

theorem runInputs_regsOf (cs : List CoreInput) (u s : State) :
    runInputs cs (State.regsOf u s) = State.regsOf u (runInputs cs s) := by
  induction cs generalizing s with
  | nil => rfl
  | cons c cs ih => unfold runInputs; rw [runInput_regsOf, ih]

theorem takeAnswer_regsOf (device : Nat) (addr : Addr) (written : Option Byte) (u s : State) :
    takeAnswer device addr written (State.regsOf u s)
      = ((takeAnswer device addr written s).1, State.regsOf u (takeAnswer device addr written s).2) := by
  unfold takeAnswer State.regsOf
  dsimp only
  split <;> rfl

theorem readCallback_regsOf (client : Client) (first addr : Addr) (u s : State) :
    readCallback client first addr (State.regsOf u s)
      = ((readCallback client first addr s).1, State.regsOf u (readCallback client first addr s).2) := by
  unfold readCallback
  cases client with
  | timer i => dsimp only [State.regsOf_timers]; split <;> rfl
  | external device => simp only [takeAnswer_regsOf, runInputs_regsOf]

theorem writeCallback_regsOf (client : Client) (first addr : Addr) (v : Byte) (u s : State) :
    writeCallback client first addr v (State.regsOf u s) = State.regsOf u (writeCallback client first addr v s) := by
  unfold writeCallback
  cases client with
  | timer i => rfl
  | external device => simp only [takeAnswer_regsOf, runInputs_regsOf]

theorem readRegions_regsOf (addr : Addr) (rs : List Region) (u s : State) :
    readRegions addr rs (State.regsOf u s)
      = ((readRegions addr rs s).1, State.regsOf u (readRegions addr rs s).2) := by
  induction rs generalizing s with
  | nil => rfl
  | cons r rs ih =>
    unfold readRegions
    cases r.reader with
    | none => exact ih s
    | some client => simp only [readCallback_regsOf, ih]

theorem busRead_regsOf (addr : Addr) (u s : State) :
    busRead addr (State.regsOf u s) = ((busRead addr s).1, State.regsOf u (busRead addr s).2) := by
  unfold busRead
  rw [State.regsOf_matching]
  cases s.matching addr with
  | nil => rfl
  | cons r rs =>
    dsimp only
    rw [readRegions_regsOf]
    split <;> rfl

theorem memStore_regsOf (addr : Addr) (v : Byte) (u s : State) :
    (State.regsOf u s).memStore addr v = State.regsOf u (s.memStore addr v) := rfl

theorem writeRegions_regsOf (addr : Addr) (v : Byte) (rs : List Region) (u s : State) :
    writeRegions addr v rs (State.regsOf u s) = State.regsOf u (writeRegions addr v rs s) := by
  induction rs generalizing s with
  | nil => rfl
  | cons r rs ih =>
    unfold writeRegions
    dsimp only
    rw [← ih]
    congr 1
    cases r.writer <;> cases r.backs <;> simp [memStore_regsOf, writeCallback_regsOf]

theorem busWrite_regsOf (addr : Addr) (v : Byte) (u s : State) :
    busWrite addr v (State.regsOf u s) = State.regsOf u (busWrite addr v s) := by
  unfold busWrite
  dsimp only
  rw [State.regsOf_matching, writeRegions_regsOf, State.regsOf_isReadOnly]
  split <;> rfl

theorem busRead_of_regs {f : State → State} (hf : ∀ s t : State, State.regsOf s t = t → f t = State.regsOf (f s) t)
    (addr : Addr) (s : State) : busRead addr (f s) = ((busRead addr s).1, f (busRead addr s).2) := by
  have h1 := hf s s s.regsOf_self
  have h2 := hf s _ (busRead_onlyDevices addr s).regsOf
  rw [h1, busRead_regsOf, ← h2]

theorem busWrite_of_regs {f : State → State} (hf : ∀ s t : State, State.regsOf s t = t → f t = State.regsOf (f s) t)
    (addr : Addr) (v : Byte) (s : State) : busWrite addr v (f s) = f (busWrite addr v s) := by
  have h1 := hf s s s.regsOf_self
  have h2 := hf s _ (busWrite_stored addr v s).regsOf
  rw [h1, busWrite_regsOf, ← h2]

theorem setA_regs (v : Byte) (s t : State) (h : State.regsOf s t = t) : t.setA v = State.regsOf (s.setA v) t := by
  conv_lhs => rw [← h]
  rfl
theorem setX_regs (v : Byte) (s t : State) (h : State.regsOf s t = t) : t.setX v = State.regsOf (s.setX v) t := by
  conv_lhs => rw [← h]
  rfl
theorem setY_regs (v : Byte) (s t : State) (h : State.regsOf s t = t) : t.setY v = State.regsOf (s.setY v) t := by
  conv_lhs => rw [← h]
  rfl
theorem setSp_regs (v : Byte) (s t : State) (h : State.regsOf s t = t) : t.setSp v = State.regsOf (s.setSp v) t := by
  conv_lhs => rw [← h]
  rfl
theorem setPc_regs (v : Addr) (s t : State) (h : State.regsOf s t = t) : t.setPc v = State.regsOf (s.setPc v) t := by
  conv_lhs => rw [← h]
  rfl
theorem setAgenda_regs (v : List Turn) (s t : State) (h : State.regsOf s t = t) :
    t.setAgenda v = State.regsOf (s.setAgenda v) t := by
  conv_lhs => rw [← h]
  rfl

theorem busRead_setSp (v : Byte) (addr : Addr) (s : State) :
    busRead addr (s.setSp v) = ((busRead addr s).1, (busRead addr s).2.setSp v) := busRead_of_regs (setSp_regs v) addr s
theorem busRead_setPc (v : Addr) (addr : Addr) (s : State) :
    busRead addr (s.setPc v) = ((busRead addr s).1, (busRead addr s).2.setPc v) := busRead_of_regs (setPc_regs v) addr s
theorem busRead_setAgenda (v : List Turn) (addr : Addr) (s : State) :
    busRead addr (s.setAgenda v) = ((busRead addr s).1, (busRead addr s).2.setAgenda v) :=
  busRead_of_regs (setAgenda_regs v) addr s
theorem busWrite_setSp (k : Byte) (addr : Addr) (v : Byte) (s : State) :
    busWrite addr v (s.setSp k) = (busWrite addr v s).setSp k := busWrite_of_regs (setSp_regs k) addr v s
theorem busWrite_setPc (k : Addr) (addr : Addr) (v : Byte) (s : State) :
    busWrite addr v (s.setPc k) = (busWrite addr v s).setPc k := busWrite_of_regs (setPc_regs k) addr v s

end Sys2Proof.Machine
end

