-- ==== Sys2Proof/Laws/Bytes.lean ====
section
/-! SUPPORT. A 16-bit value and its two bytes, as numbers; bit 7 and the zero test of a byte as comparisons. -/

namespace Sys2Proof

theorem addrOf_toNat (lo hi : Byte) : (addrOf lo hi).toNat = 256 * hi.toNat + lo.toNat := by
  unfold addrOf
  rw [BitVec.toNat_append, Nat.shiftLeft_eq, Nat.mul_comm, ← Nat.two_pow_add_eq_or_of_lt lo.isLt]

theorem lowByte_toNat (w : Addr) : (lowByte w).toNat = w.toNat % 256 := by
  unfold lowByte
  rw [BitVec.extractLsb'_toNat]
  simp

theorem highByte_toNat (w : Addr) : (highByte w).toNat = w.toNat / 256 := by
  unfold highByte
  rw [BitVec.extractLsb'_toNat, Nat.shiftRight_eq_div_pow]
  have := w.isLt
  omega

@[simp] theorem addrOf_parts (w : Addr) : addrOf (lowByte w) (highByte w) = w := by
  apply BitVec.eq_of_toNat_eq
  rw [addrOf_toNat, lowByte_toNat, highByte_toNat]
  omega

@[simp] theorem lowByte_addrOf (lo hi : Byte) : lowByte (addrOf lo hi) = lo := by
  apply BitVec.eq_of_toNat_eq
  rw [lowByte_toNat, addrOf_toNat]
  have := lo.isLt
  omega

@[simp] theorem highByte_addrOf (lo hi : Byte) : highByte (addrOf lo hi) = hi := by
  apply BitVec.eq_of_toNat_eq
  rw [highByte_toNat, addrOf_toNat]
  have := lo.isLt
  omega

/-- Bit 7 of a byte is its being at least 128. -/
theorem bit7_eq (v : Byte) : v.getLsbD 7 = decide (v.toNat ≥ 128) := by
  rw [BitVec.getLsbD, Nat.testBit_eq_decide_div_mod_eq]
  have := v.isLt
  congr 1
  apply propext
  omega

/-- Bit 6 of a byte. -/
theorem bit6_eq (v : Byte) : v.getLsbD 6 = decide (v.toNat / 64 % 2 = 1) := by
  rw [BitVec.getLsbD, Nat.testBit_eq_decide_div_mod_eq]

/-- Bit 0 of a byte. -/
theorem bit0_eq (v : Byte) : v.getLsbD 0 = decide (v.toNat % 2 = 1) := by
  rw [BitVec.getLsbD, Nat.testBit_eq_decide_div_mod_eq]
  simp

/-- The zero test of a byte. -/
theorem isZero_eq (v : Byte) : (v == 0) = decide (v.toNat = 0) := by
  rw [Bool.eq_iff_iff]
  simp [← BitVec.toNat_inj]

end Sys2Proof
end

