-- ==== Sys2Proof/Laws/Decode.lean ====
section
/-! SUPPORT. The opcode table, once for all 256 bytes: which entry an opcode byte has, and that the entry's instruction encodes to that byte. -/

namespace Sys2Proof

/-- Every opcode byte announces an instruction of one, two or three bytes, whose encoding starts with that byte. -/
theorem opcodeEntry_cases (op : Byte) :
    (∃ i, opcodeEntry op = .one i ∧ encode i = [op] ∧ i.opcode = op ∧ i.len = 1) ∨
    (∃ f, opcodeEntry op = .two f ∧ ∀ b, encode (f b) = [op, b] ∧ (f b).opcode = op ∧ (f b).len = 2) ∨
    (∃ f, opcodeEntry op = .three f ∧ ∀ lo hi, encode (f (addrOf lo hi)) = [op, lo, hi] ∧
      (f (addrOf lo hi)).opcode = op ∧ (f (addrOf lo hi)).len = 3) := by
  have hn := op.isLt
  rw [show op = BitVec.ofNat 8 op.toNat by simp]
  generalize op.toNat = n at hn
  interval_cases n
  all_goals first
   | (refine Or.inl ⟨_, rfl, ?_⟩
      exact ⟨rfl, rfl, rfl⟩)
   | (refine Or.inr (Or.inl ⟨_, rfl, ?_⟩)
      exact fun b => ⟨rfl, rfl, rfl⟩)
   | (refine Or.inr (Or.inr ⟨_, rfl, ?_⟩)
      intro lo hi
      refine ⟨?_, rfl, rfl⟩
      show [_, lowByte (addrOf lo hi), highByte (addrOf lo hi)] = _
      rw [lowByte_addrOf, highByte_addrOf]
      rfl)

/-- What decodes to an instruction starts with its opcode byte and is its encoding, then the rest. -/
theorem decode_encoding {op : Byte} {bytes rest : List Byte} {i : Instr} (h : decode (op :: bytes) = .ok (i, rest)) :
    op :: bytes = encode i ++ rest ∧ i.opcode = op := by
  rcases opcodeEntry_cases op with ⟨j, he, hj, ho, -⟩ | ⟨f, he, hf⟩ | ⟨f, he, hf⟩
  · simp only [decode, he] at h
    cases h; exact ⟨by simp [hj], ho⟩
  · match bytes, h with
    | [], h => simp only [decode, he] at h; cases h
    | b :: tail, h => simp only [decode, he] at h; cases h; exact ⟨by simp [(hf b).1], (hf b).2.1⟩
  · match bytes, h with
    | [], h => simp only [decode, he] at h; cases h
    | [_], h => simp only [decode, he] at h; cases h
    | lo :: hi :: tail, h =>
      simp only [decode, he] at h; cases h; exact ⟨by simp [(hf lo hi).1], (hf lo hi).2.1⟩

/-- A row of an encodings table holds if its bytes decode to its instruction and its numbers are the table's. -/
theorem encodedAs_intro {i : Instr} {op : Byte} {bytes : List Byte} {mode : Mode} {len base : Nat}
    (h : decode (op :: bytes) = .ok (i, [])) (hm : i.mode = mode) (hl : i.len = len) (hn : (op :: bytes).length = len)
    (hb : Machine.defaultBaseCycles op = base) : Machine.EncodedAs i (op :: bytes) mode len base := by
  obtain ⟨he, ho⟩ := decode_encoding h
  exact ⟨h, by simpa using he.symm, hm, hl, hn, ho ▸ hb⟩

end Sys2Proof
end

