-- ==== Sys2Proof/Laws/FlagsAfter.lean ====
section
/-! SUPPORT. Each flag computation of Machine/Flags.lean as `FlagsAfter`: the flags it writes, with their values as comparisons of numbers, and no
others. -/

namespace Sys2Proof.Machine

/-- `FlagsAfter` from one equation that gives every flag. -/
theorem flagsAfter_of_lookup {p q : Byte} {l : List (Flag × Bool)} (hn : (l.map Prod.fst).Nodup)
    (h : ∀ f, getFlag f q = (l.lookup f).getD (getFlag f p)) : FlagsAfter p q l := by
  refine ⟨fun w hw => ?_, fun g hg => ?_⟩
  · rw [h]
    clear h
    induction l with
    | nil => simp at hw
    | cons c l ih =>
      rw [List.map_cons, List.nodup_cons] at hn
      rcases List.mem_cons.1 hw with rfl | hw
      · simp [List.lookup]
      · have : w.1 ≠ c.1 := fun e => hn.1 (e ▸ List.mem_map_of_mem hw)
        rw [List.lookup_cons, beq_false_of_ne this]
        exact ih hn.2 hw
  · rw [h]
    have : l.lookup g = none := by
      rw [List.lookup_eq_none_iff]
      intro p hp
      rw [bne_iff_ne]
      rintro rfl
      exact hg (List.mem_map_of_mem hp)
    rw [this]; rfl

theorem flagsAfter_nil (p : Byte) : FlagsAfter p p [] := ⟨fun _ h => by simp at h, fun _ _ => rfl⟩

theorem flagsAfter_putFlag (f : Flag) (v : Bool) (p : Byte) : FlagsAfter p (putFlag f v p) [(f, v)] := by
  refine flagsAfter_of_lookup (by simp) (fun g => ?_)
  rw [getFlag_putFlag, List.lookup_cons]
  by_cases h : g = f <;> simp [h, List.lookup, beq_false_of_ne]

theorem flagsAfter_putZN (v p : Byte) : FlagsAfter p (putZN v p) (zn v) := by
  refine flagsAfter_of_lookup (by simp [zn]) (fun g => ?_)
  rw [getFlag_putZN, bit7_eq, isZero_eq]
  cases g <;> rfl

theorem flagsAfter_putSum (r : Sum) (p : Byte) :
    FlagsAfter p (putSum r p) ([(.c, r.carry), (.v, r.overflow)] ++ zn r.result) := by
  refine flagsAfter_of_lookup (by simp [zn]) (fun g => ?_)
  rw [getFlag_putSum, bit7_eq, isZero_eq]
  cases g <;> rfl

theorem flagsAfter_putCompare (reg m p : Byte) :
    FlagsAfter p (putCompare reg m p) [(.c, decide (reg.toNat ≥ m.toNat)), (.z, decide (reg.toNat = m.toNat)),
      (.n, decide ((reg.toNat + 256 - m.toNat) % 256 ≥ 128))] := by
  refine flagsAfter_of_lookup (by simp) (fun g => ?_)
  have hz : (reg == m) = decide (reg.toNat = m.toNat) := by
    rw [Bool.eq_iff_iff]; simp [← BitVec.toNat_inj]
  have hn : (reg - m).toNat = (reg.toNat + 256 - m.toNat) % 256 := by
    have := m.isLt
    rw [BitVec.toNat_sub]; congr 1; omega
  rw [getFlag_putCompare, bit7_eq, hz, hn]
  cases g <;> rfl

theorem flagsAfter_putBit (a m p : Byte) :
    FlagsAfter p (putBit a m p) [(.z, decide ((a &&& m).toNat = 0)), (.n, decide (m.toNat ≥ 128)),
      (.v, decide (m.toNat / 64 % 2 = 1))] := by
  refine flagsAfter_of_lookup (by simp) (fun g => ?_)
  rw [getFlag_putBit, bit7_eq, bit6_eq, isZero_eq]
  cases g <;> rfl

theorem flagsAfter_putTest (a m p : Byte) :
    FlagsAfter p (putTest a m p) [(.z, decide ((a &&& m).toNat = 0))] := by
  unfold putTest
  rw [isZero_eq]
  exact flagsAfter_putFlag ..

/-- The result of a one-bit move, as a number. -/
theorem shiftResult_toNat (k : Shift) (v p : Byte) :
    (shiftResult k v p).toNat = movedBits k v.toNat (getFlag .c p).toNat := by
  have hv := v.isLt
  have h1 : ∀ b : Bool, ((v <<< 1) ||| (if b then 0x01 else 0x00)).toNat = 2 * v.toNat % 256 + b.toNat := by
    intro b
    have h : (v <<< 1).toNat = 2 * (v.toNat % 128) := by
      rw [BitVec.toNat_shiftLeft, Nat.shiftLeft_eq]; omega
    rw [BitVec.toNat_or, h]
    have : (if b then (0x01 : Byte) else 0x00).toNat = b.toNat := by cases b <;> rfl
    rw [this]
    have hb : b.toNat < 2 ^ 1 := by cases b <;> decide
    have := Nat.two_pow_add_eq_or_of_lt hb (v.toNat % 128)
    rw [pow_one] at this
    rw [← this]
    omega
  have h2 : ∀ b : Bool, ((v >>> 1) ||| (if b then 0x80 else 0x00)).toNat = v.toNat / 2 + 128 * b.toNat := by
    intro b
    have h : (v >>> 1).toNat = v.toNat / 2 := by
      rw [BitVec.toNat_ushiftRight, Nat.shiftRight_eq_div_pow]
    rw [BitVec.toNat_or, h]
    cases b
    · simp
    · have hb : v.toNat / 2 < 2 ^ 7 := by omega
      have := Nat.two_pow_add_eq_or_of_lt hb 1
      rw [Nat.or_comm]
      show 2 ^ 7 * 1 ||| v.toNat / 2 = _
      rw [← this]
      simp
      omega
  cases k with
  | asl => have := h1 false; simpa [shiftResult, aslResult, movedBits] using this
  | lsr => have := h2 false; simpa [shiftResult, lsrResult, movedBits] using this
  | rol => exact h1 _
  | ror => exact h2 _

theorem shiftCarry_eq (k : Shift) (v : Byte) : shiftCarry k v = movedOut k v.toNat := by
  cases k <;> simp only [shiftCarry, movedOut, bit7_eq, bit0_eq]

theorem flagsAfter_putShift (k : Shift) (v p : Byte) :
    FlagsAfter p (putShift k v p) ((.c, movedOut k v.toNat) :: zn (shiftResult k v p)) := by
  refine flagsAfter_of_lookup (by simp [zn]) (fun g => ?_)
  rw [getFlag_putShift, bit7_eq, isZero_eq, shiftCarry_eq]
  cases g <;> rfl

end Sys2Proof.Machine
end

