-- ==== Sys2Proof/Laws/Ops.lean ====
section
/-! SUPPORT. What the shared operations of Machine/Ops.lean and Machine/Operands.lean do, once each: pushes and pulls as single Bus accesses at
stack slots of the S before, the interrupt entry, the return, the operand accesses, and how far each reaches. -/

namespace Sys2Proof.Machine

/-! ### Stack slots -/

theorem stackAddr_add (sp : Byte) (k : Nat) : stackAddr (sp + BitVec.ofNat 8 k) = stackSlot sp k := by
  apply BitVec.eq_of_toNat_eq
  unfold stackAddr stackSlot
  have := sp.isLt
  have h100 : (0x0100 : Addr).toNat = 256 := rfl
  simp only [BitVec.toNat_add, BitVec.toNat_setWidth, BitVec.toNat_ofNat, h100]
  omega

theorem stackAddr_zero (sp : Byte) : stackAddr sp = stackSlot sp 0 := by
  have h := stackAddr_add sp 0
  simpa using h

theorem stackAddr_sub_one (sp : Byte) : stackAddr (sp - 1) = stackSlot sp 255 := by
  rw [← stackAddr_add, BitVec.sub_eq_add_neg]; rfl

theorem stackAddr_sub_two (sp : Byte) : stackAddr (sp - 1 - 1) = stackSlot sp 254 := by
  rw [← stackAddr_add]; congr 1; bv_omega

theorem stackAddr_add_one (sp : Byte) : stackAddr (sp + 1) = stackSlot sp 1 := by
  rw [← stackAddr_add]; rfl

theorem stackAddr_add_two (sp : Byte) : stackAddr (sp + 1 + 1) = stackSlot sp 2 := by
  rw [← stackAddr_add]; congr 1; bv_omega

theorem stackAddr_add_three (sp : Byte) : stackAddr (sp + 1 + 1 + 1) = stackSlot sp 3 := by
  rw [← stackAddr_add]; congr 1; bv_omega

theorem stackSlot_toNat (sp : Byte) (k : Nat) : (stackSlot sp k).toNat = 256 + (sp.toNat + k) % 256 := by
  unfold stackSlot
  rw [BitVec.toNat_ofNat]
  omega

/-- Slots of different offsets below 256 are different addresses. -/
theorem stackSlot_ne (sp : Byte) {j k : Nat} (hj : j < 256) (hk : k < 256) (h : j ≠ k) : stackSlot sp j ≠ stackSlot sp k := by
  intro e
  have := congrArg BitVec.toNat e
  simp only [stackSlot_toNat] at this
  have := sp.isLt
  omega

/-- A slot is no address of another page. -/
theorem stackSlot_ne_of_page (sp : Byte) (k : Nat) {a : Addr} (h : a.toNat / 256 ≠ 1) : a ≠ stackSlot sp k := by
  intro e
  have := congrArg BitVec.toNat e
  simp only [stackSlot_toNat] at this
  omega

/-! ### Push and pull -/

theorem push_eq (v : Byte) (s : State) :
    push v s = (busWrite (stackSlot s.sp 0) v s).setSp (s.sp - 1) := by
  unfold push
  rw [stackAddr_zero]
  show (busWrite _ v s).setSp ((busWrite _ v s).sp - 1) = _
  rw [(busWrite_stored ..).sp]

theorem pull_eq (s : State) :
    pull s = ((busRead (stackSlot s.sp 1) s).1, (busRead (stackSlot s.sp 1) s).2.setSp (s.sp + 1)) := by
  unfold pull
  show busRead (stackAddr (s.sp + 1)) (s.setSp (s.sp + 1)) = _
  rw [stackAddr_add_one, busRead_setSp]

theorem pushWord_eq (w : Addr) (s : State) :
    pushWord w s = (busWrite (stackSlot s.sp 255) (lowByte w) (busWrite (stackSlot s.sp 0) (highByte w) s)).setSp (s.sp - 2) := by
  unfold pushWord
  rw [push_eq (highByte w), push_eq (lowByte w)]
  simp only [State.setSp_sp]
  rw [← stackAddr_zero (s.sp - 1), stackAddr_sub_one, busWrite_setSp, State.setSp_setSp]
  congr 1
  bv_omega

theorem pullWord_eq (s : State) :
    pullWord s =
      (addrOf (busRead (stackSlot s.sp 1) s).1 (busRead (stackSlot s.sp 2) (busRead (stackSlot s.sp 1) s).2).1,
        (busRead (stackSlot s.sp 2) (busRead (stackSlot s.sp 1) s).2).2.setSp (s.sp + 2)) := by
  unfold pullWord
  simp only [pull_eq, State.setSp_sp, busRead_setSp, State.setSp_setSp]
  rw [← stackAddr_add_one (s.sp + 1), stackAddr_add_two]
  congr 2
  bv_omega

theorem busReadWord_eq (addr : Addr) (s : State) :
    busReadWord addr s = (addrOf (busRead addr s).1 (busRead (addr + 1) (busRead addr s).2).1,
      (busRead (addr + 1) (busRead addr s).2).2) := rfl

/-! ### The interrupt entry and return -/

/-- The entry, with every Bus access on states that still have the S before. -/
theorem enterInterrupt_eq (setsBreak : Bool) (vector : Addr) (s : State) :
    enterInterrupt setsBreak vector s =
      let w2 := busWrite (stackSlot s.sp 255) (lowByte s.pc) (busWrite (stackSlot s.sp 0) (highByte s.pc) s)
      let image := if setsBreak then putFlag .b true w2.p else w2.p
      let w3 := busWrite (stackSlot s.sp 254) image (w2.setP image)
      let ready := w3.setP (putFlag .i true w3.p)
      ((busReadWord vector ready).2.setSp (s.sp - 3)).setPc (busReadWord vector ready).1 := by
  have hp : ∀ (v : Byte) (t : State), (t.setSp v).setP t.p = t.setSp v := fun v t => rfl
  unfold enterInterrupt
  rw [pushWord_eq]
  set w2 := busWrite (stackSlot s.sp 255) (lowByte s.pc) (busWrite (stackSlot s.sp 0) (highByte s.pc) s) with hw2
  have e : (if setsBreak = true then (w2.setSp (s.sp - 2)).setP (putFlag .b true (w2.setSp (s.sp - 2)).p)
      else w2.setSp (s.sp - 2))
      = (w2.setP (if setsBreak = true then putFlag .b true w2.p else w2.p)).setSp (s.sp - 2) := by
    cases setsBreak <;> rfl
  dsimp only
  rw [e, push_eq]
  simp only [State.setSp_sp, State.setSp_p, State.setP_p]
  have e2 : stackSlot (s.sp - 2) 0 = stackSlot s.sp 254 := by
    rw [← stackAddr_zero, ← stackAddr_add]; congr 1; bv_omega
  rw [e2, busWrite_setSp, State.setSp_setSp]
  have e3 : s.sp - 2 - 1 = s.sp - 3 := by bv_omega
  rw [e3]
  simp only [State.setSp_p]
  generalize busWrite (stackSlot s.sp 254) _ _ = w3
  have e4 : (w3.setSp (s.sp - 3)).setP (putFlag .i true w3.p) = (w3.setP (putFlag .i true w3.p)).setSp (s.sp - 3) := rfl
  rw [e4]
  simp only [busReadWord_eq, busRead_setSp]

/-- The three uses of the interrupt entry, access by access. -/
theorem enterInterrupt_enters (setsBreak : Bool) (vector : Addr) (s : State) :
    EntersInterrupt setsBreak s.pc vector s (enterInterrupt setsBreak vector s) := by
  rw [enterInterrupt_eq]
  let w2 := busWrite (stackSlot s.sp 255) (lowByte s.pc) (busWrite (stackSlot s.sp 0) (highByte s.pc) s)
  let image := if setsBreak = true then putFlag .b true w2.p else w2.p
  let w3 := busWrite (stackSlot s.sp 254) image (w2.setP image)
  refine ⟨image, ?_, putFlag .i true w3.p, flagsAfter_putFlag .i true _, rfl⟩
  cases setsBreak
  · exact flagsAfter_nil _
  · exact flagsAfter_putFlag ..

theorem softwareInterrupt_enters (s : State) : EntersInterrupt true (s.pc + 1) 0xFFFE s (softwareInterrupt s) := by
  have h := enterInterrupt_enters true irqVector (s.setPc (s.pc + 1))
  unfold EntersInterrupt at h ⊢
  simp only [State.setPc_sp, State.setPc_pc, busWrite_setPc] at h
  obtain ⟨image, hi, status, hs, ht⟩ := h
  have e : ∀ (t : State) (q : Byte), (t.setPc (s.pc + 1)).setP q = (t.setP q).setPc (s.pc + 1) := fun _ _ => rfl
  simp only [e, busWrite_setPc, busRead_setPc, State.setPc_p] at hs ht
  exact ⟨image, hi, status, hs, ht⟩

theorem returnFromInterrupt_eq (s : State) :
    returnFromInterrupt s =
      let got := busRead (stackSlot s.sp 1) s
      let lo := busRead (stackSlot s.sp 2) (got.2.setP (statusFrom got.1))
      let hi := busRead (stackSlot s.sp 3) lo.2
      (hi.2.setSp (s.sp + 3)).setPc (addrOf lo.1 hi.1) := by
  unfold returnFromInterrupt
  rw [pull_eq]
  dsimp only
  have e : ∀ (t : State) (v q : Byte), (t.setSp v).setP q = (t.setP q).setSp v := fun _ _ _ => rfl
  rw [e, pullWord_eq]
  simp only [State.setSp_sp, busRead_setSp, State.setSp_setSp]
  have e1 : stackSlot (s.sp + 1) 1 = stackSlot s.sp 2 := by
    rw [← stackAddr_add_one, stackAddr_add_two]
  have e2 : stackSlot (s.sp + 1) 2 = stackSlot s.sp 3 := by
    rw [← stackAddr_add_two, stackAddr_add_three]
  have e3 : s.sp + 1 + 2 = s.sp + 3 := by bv_omega
  rw [e1, e2, e3]

/-! ### The boundary -/

/-- The countdown touches neither the IRQ latch nor P. -/
@[simp] theorem countDown_irqPending (len : Nat) (s : State) : (countDown len s).irqPending = s.irqPending := by
  unfold countDown
  split
  · split <;> rfl
  · rfl
@[simp] theorem countDown_p (len : Nat) (s : State) : (countDown len s).p = s.p := by
  unfold countDown
  split
  · split <;> rfl
  · rfl

/-- The timer updates touch neither I nor the countdown. -/
theorem updateTimers_interruptFlag (cycles : Nat) (s : State) : getFlag .i (updateTimers cycles s).p = getFlag .i s.p := by
  unfold updateTimers
  dsimp only
  split
  · show getFlag .i (putFlag .b false s.p) = _
    rw [getFlag_putFlag_other (by decide)]
  · rfl
@[simp] theorem updateTimers_nmiDelay (cycles : Nat) (s : State) : (updateTimers cycles s).nmiDelay = s.nmiDelay := by
  unfold updateTimers
  dsimp only
  split <;> rfl

/-! ### Operand accesses -/

theorem resolve_onlyDevices (o : Operand) (s : State) : OnlyDevices s (resolve o s).state := by
  cases o <;> first | exact .refl s | exact (busRead_onlyDevices ..).trans (busRead_onlyDevices ..)

theorem readSource_onlyDevices (src : Source) (s : State) : OnlyDevices s (readSource src s).2 := by
  cases src with
  | imm b => exact .refl s
  | mem o => exact (resolve_onlyDevices o s).trans (busRead_onlyDevices ..)

theorem jumpTarget_onlyDevices (j : JumpTo) (s : State) : OnlyDevices s (jumpTarget j s).2 := by
  cases j with
  | abs w => exact .refl s
  | ind w => exact busReadWord_onlyDevices ..
  | iax w => exact busReadWord_onlyDevices ..

/-- A store changes the byte at the effective address and what devices may change. -/
theorem storeTo_stored (o : Operand) (v : Byte) (s : State) : Stored (resolve o s).ea v s (storeTo o v s) :=
  (Stored.ofDevices (resolve_onlyDevices o s)).trans (busWrite_stored ..)

/-- A read-modify-write, its status changes taken out: what it leaves in memory and to the devices. -/
theorem modifyMemory_stored (result before after : Byte → Byte → Byte) (o : Operand) (s : State) :
    ∃ got t, OnlyDevices s got ∧ Stored (resolve o s).ea (result (busRead (resolve o s).ea (resolve o s).state).1 got.p)
        (got.setP (before (busRead (resolve o s).ea (resolve o s).state).1 got.p)) t ∧
      modifyMemory result before after o s = t.setP (after (busRead (resolve o s).ea (resolve o s).state).1 t.p) :=
  ⟨_, _, (resolve_onlyDevices o s).trans (busRead_onlyDevices ..), busWrite_stored .., rfl⟩

end Sys2Proof.Machine
end

