-- ==== Sys2Proof/Laws/Kept.lean ====
section
/-! SUPPORT. What no instruction and no boundary can touch, said once: `Kept` for every Bus access and boundary step, and with `Latched`, what no
instruction takes back, `Reaches` for every shared operation. -/

namespace Sys2Proof.Machine

/-- `t` is reached from `s` without touching what the CPU cannot touch: the marks, the device table, the agenda, the parameters and the number
of timer instances are the same, the unused status bit stays 1, bit 7 of every IER stays 0, memory stays canonical, and a read-only byte that
no backing region covers is the same. -/
structure Kept (s t : State) : Prop where
  readOnly : t.readOnly = s.readOnly
  regions : t.regions = s.regions
  instances : t.timers.length = s.timers.length
  agenda : t.agenda = s.agenda
  unused : getFlag .u s.p = true → getFlag .u t.p = true
  enables : (∀ u ∈ s.timers, u.ier.getLsbD 7 = false) → ∀ u ∈ t.timers, u.ier.getLsbD 7 = false
  memory : s.mem.wf → t.mem.wf
  bytes : ∀ addr : Addr, s.isReadOnly addr = true → (∀ r ∈ s.regions, r.covers addr = true → r.backs = false) →
    t.memByte addr = s.memByte addr
  params : t.params = s.params

theorem Kept.refl (s : State) : Kept s s := ⟨rfl, rfl, rfl, rfl, id, id, id, fun _ _ _ => rfl, rfl⟩

theorem Kept.trans {s t u : State} (h : Kept s t) (k : Kept t u) : Kept s u where
  readOnly := k.readOnly.trans h.readOnly
  regions := k.regions.trans h.regions
  instances := k.instances.trans h.instances
  agenda := k.agenda.trans h.agenda
  params := k.params.trans h.params
  unused e := k.unused (h.unused e)
  enables e := k.enables (h.enables e)
  memory e := k.memory (h.memory e)
  bytes addr hr hb := by
    have hr' : t.isReadOnly addr = true := by unfold State.isReadOnly; rw [h.readOnly]; exact hr
    exact (k.bytes addr hr' (by rw [h.regions]; exact hb)).trans (h.bytes addr hr hb)

/-- What a change of registers alone keeps. -/
theorem Kept.ofSame {s t : State} (h1 : t.readOnly = s.readOnly) (h2 : t.regions = s.regions) (h3 : t.timers = s.timers)
    (h4 : t.agenda = s.agenda) (h5 : getFlag .u s.p = true → getFlag .u t.p = true) (h6 : t.mem = s.mem)
    (h7 : t.params = s.params) : Kept s t :=
  ⟨h1, h2, by rw [h3], h4, h5, by rw [h3]; exact id, by rw [h6]; exact id, fun _ _ _ => by unfold State.memByte; rw [h6], h7⟩

/-! ### The timers -/

theorem ierAfterWrite_bit7 (ier v : Byte) : (ierAfterWrite ier v).getLsbD 7 = ier.getLsbD 7 := by
  unfold ierAfterWrite
  split <;> simp

theorem readRegister_ier (q : Params) (r : TimerReg) (t : Timer) : (t.readRegister q r).2.ier = t.ier := rfl

theorem writeRegister_ier_bit7 (q : Params) (r : TimerReg) (v : Byte) (t : Timer) :
    (t.writeRegister q r v).ier.getLsbD 7 = t.ier.getLsbD 7 := by
  cases r with
  | ier => exact ierAfterWrite_bit7 ..
  | _ => rfl

theorem setInputPort_ier (port : Port) (op : PortOp) (mask : BitVec 16) (t : Timer) : (t.setInputPort port op mask).ier = t.ier := by
  cases port <;> rfl

theorem update_ier (e : Nat) (t : Timer) : (t.update e).2.ier = t.ier := by
  have h1 : (t.updateTimer1 e).ier = t.ier := by
    have ho : ∀ u : Timer, u.outputLine.ier = u.ier := by
      intro u; unfold Timer.outputLine; split
      · split <;> rfl
      · rfl
    have hp : ∀ (n : Nat) (u : Timer), (u.putCounter1 n).ier = u.ier := fun _ _ => rfl
    unfold Timer.updateTimer1
    dsimp only
    generalize timer1Next (t.acr.getLsbD 6) t.counter1 t.latch1 e = next
    obtain ⟨n, b⟩ := next
    cases b
    · rfl
    · exact (hp n t.outputLine).trans (ho t)
  have h2 : ∀ u : Timer, (u.updateTimer2 e).ier = u.ier := by
    intro u; unfold Timer.updateTimer2; dsimp only
    split
    · split <;> rfl
    · rfl
  unfold Timer.update
  dsimp only
  split <;> exact (h2 _).trans h1

/-! ### The Bus -/

theorem kept_ofDevices {s t : State} (h : OnlyDevices s t)
    (he : (∀ u ∈ s.timers, u.ier.getLsbD 7 = false) → ∀ u ∈ t.timers, u.ier.getLsbD 7 = false) : Kept s t where
  readOnly := h.readOnly
  regions := h.regions
  instances := h.instances
  agenda := h.agenda
  params := h.params
  unused e := (h.flags .u (by decide)).trans e
  enables := he
  memory e := by rw [h.mem]; exact e
  bytes addr _ _ := h.memByte addr

theorem forall_mem_modify {α : Type} {P : α → Prop} {f : α → α} (hf : ∀ x, P x → P (f x)) (l : List α) (i : Nat)
    (h : ∀ x ∈ l, P x) : ∀ x ∈ l.modify i f, P x := by
  intro x hx
  obtain ⟨k, hk, rfl⟩ := List.getElem_of_mem hx
  rw [List.length_modify] at hk
  rw [List.getElem_modify]
  split
  · exact hf _ (h _ (List.getElem_mem hk))
  · exact h _ (List.getElem_mem hk)

theorem kept_modifyTimer (i : Nat) {f : Timer → Timer} (hf : ∀ t, t.ier.getLsbD 7 = false → (f t).ier.getLsbD 7 = false) (s : State) :
    Kept s (s.modifyTimer i f) :=
  kept_ofDevices (modifyTimer_onlyDevices ..) (forall_mem_modify hf _ _)

theorem kept_runInput (c : CoreInput) (s : State) : Kept s (runInput c s) := by
  cases c with
  | assertIrq => exact kept_ofDevices (assertIrq_onlyDevices s) id
  | assertNmi => exact kept_ofDevices (assertNmi_onlyDevices s) id
  | armDelayedNmi => exact kept_ofDevices (armDelayedNmi_onlyDevices s) id
  | setInputPort i port op mask => exact kept_modifyTimer i (fun t h => by rw [setInputPort_ier]; exact h) s

theorem kept_runInputs (cs : List CoreInput) (s : State) : Kept s (runInputs cs s) := by
  induction cs generalizing s with
  | nil => exact .refl s
  | cons c cs ih => exact (kept_runInput c s).trans (ih _)

theorem kept_takeAnswer (device : Nat) (addr : Addr) (written : Option Byte) (s : State) :
    Kept s (takeAnswer device addr written s).2 := by
  refine kept_ofDevices (takeAnswer_onlyDevices ..) ?_
  unfold takeAnswer
  split <;> exact id

theorem kept_readCallback (client : Client) (first addr : Addr) (s : State) : Kept s (readCallback client first addr s).2 := by
  cases client with
  | timer i =>
    refine kept_ofDevices (readCallback_onlyDevices ..) (fun h => ?_)
    unfold readCallback
    dsimp only
    split
    · rename_i t ht
      intro u hu
      rcases List.mem_or_eq_of_mem_set hu with hu | rfl
      · exact h u hu
      · rw [readRegister_ier]; exact h t (List.mem_of_getElem? ht)
    · exact h
  | external device => exact (kept_takeAnswer ..).trans (kept_runInputs ..)

theorem kept_writeCallback (client : Client) (first addr : Addr) (v : Byte) (s : State) :
    Kept s (writeCallback client first addr v s) := by
  cases client with
  | timer i => exact kept_modifyTimer i (fun t h => by rw [writeRegister_ier_bit7]; exact h) s
  | external device => exact (kept_takeAnswer ..).trans (kept_runInputs ..)

theorem kept_readRegions (addr : Addr) (rs : List Region) (s : State) : Kept s (readRegions addr rs s).2 := by
  induction rs generalizing s with
  | nil => exact .refl s
  | cons r rs ih =>
    unfold readRegions
    split
    · exact (kept_readCallback ..).trans (ih _)
    · exact ih _

/-- A Bus read keeps all of it. -/
theorem kept_busRead (addr : Addr) (s : State) : Kept s (busRead addr s).2 := by
  unfold busRead
  split
  · exact .refl s
  · dsimp only
    split <;> exact kept_readRegions ..

/-- A store into a byte that is not read-only, or that a backing region covers. -/
theorem kept_memStore {addr : Addr} {v : Byte} {s : State}
    (h : s.isReadOnly addr = true → ∃ r ∈ s.regions, r.covers addr = true ∧ r.backs = true) : Kept s (s.memStore addr v) where
  readOnly := rfl
  regions := rfl
  instances := rfl
  agenda := rfl
  params := rfl
  unused := id
  enables := id
  memory := State.memStore_wf addr v
  bytes k hk hb := by
    refine State.memByte_memStore_other v s ?_
    rintro rfl
    obtain ⟨r, hr, hc, hback⟩ := h hk
    exact absurd hback (by rw [hb r hr hc]; decide)

theorem kept_writeRegions (addr : Addr) (v : Byte) (rs : List Region) (s : State)
    (hrs : ∀ r ∈ rs, r ∈ s.regions ∧ r.covers addr = true) : Kept s (writeRegions addr v rs s) := by
  induction rs generalizing s with
  | nil => exact .refl s
  | cons r rs ih =>
    unfold writeRegions
    have hr := hrs r List.mem_cons_self
    have hstore : Kept s (if r.backs = true then s.memStore addr v else s) := by
      split
      · exact kept_memStore (fun _ => ⟨r, hr.1, hr.2, by assumption⟩)
      · exact .refl s
    have hcall : Kept s (match r.writer with
        | some client => writeCallback client r.first addr v (if r.backs = true then s.memStore addr v else s)
        | none => if r.backs = true then s.memStore addr v else s) := by
      split
      · exact hstore.trans (kept_writeCallback ..)
      · exact hstore
    refine hcall.trans (ih _ (fun q hq => ?_))
    rw [hcall.regions]
    exact hrs q (List.mem_cons_of_mem _ hq)

/-- A Bus write keeps all of it. -/
theorem kept_busWrite (addr : Addr) (v : Byte) (s : State) : Kept s (busWrite addr v s) := by
  have h := kept_writeRegions addr v (s.matching addr) s (fun r hr => by
    unfold State.matching at hr
    exact ⟨List.mem_of_mem_filter hr, (List.mem_filter.1 hr).2⟩)
  unfold busWrite
  dsimp only
  split
  · exact h
  · rename_i hn
    exact h.trans (kept_memStore (fun e => absurd e hn))

/-! ### What is latched -/

/-- No request is taken back: the pending latches stay set, and the countdown is as it was or starts again. -/
structure Latched (s t : State) : Prop where
  irq : s.irqPending = true → t.irqPending = true
  nmi : s.nmiPending = true → t.nmiPending = true
  delay : t.nmiDelay = s.nmiDelay ∨ t.nmiDelay = Config.delayedNmiStart

theorem Latched.refl (s : State) : Latched s s := ⟨id, id, .inl rfl⟩

theorem Latched.trans {s t u : State} (h : Latched s t) (k : Latched t u) : Latched s u where
  irq e := k.irq (h.irq e)
  nmi e := k.nmi (h.nmi e)
  delay := by
    rcases k.delay with e | e
    · rw [e]; exact h.delay
    · exact .inr e

/-- What a change of other fields keeps latched. -/
theorem Latched.ofSame {s t : State} (h1 : t.irqPending = s.irqPending) (h2 : t.nmiPending = s.nmiPending)
    (h3 : t.nmiDelay = s.nmiDelay) : Latched s t := ⟨fun e => h1.trans e, fun e => h2.trans e, .inl h3⟩

theorem OnlyDevices.latched {s t : State} (h : OnlyDevices s t) : Latched s t := ⟨h.irq, h.nmi, h.delay⟩

theorem Stored.latched {addr : Addr} {v : Byte} {s t : State} (h : Stored addr v s t) : Latched s t := ⟨h.irq, h.nmi, h.delay⟩

/-- What one instruction can reach: nothing the CPU cannot touch is touched, and no request is taken back. -/
abbrev Reaches (s t : State) : Prop := Kept s t ∧ Latched s t

theorem Reaches.refl (s : State) : Reaches s s := ⟨.refl s, .refl s⟩

theorem Reaches.trans {s t u : State} (h : Reaches s t) (k : Reaches t u) : Reaches s u := ⟨h.1.trans k.1, h.2.trans k.2⟩

theorem reaches_setA (v : Byte) (s : State) : Reaches s (s.setA v) := ⟨.ofSame rfl rfl rfl rfl id rfl rfl, .ofSame rfl rfl rfl⟩
theorem reaches_setX (v : Byte) (s : State) : Reaches s (s.setX v) := ⟨.ofSame rfl rfl rfl rfl id rfl rfl, .ofSame rfl rfl rfl⟩
theorem reaches_setY (v : Byte) (s : State) : Reaches s (s.setY v) := ⟨.ofSame rfl rfl rfl rfl id rfl rfl, .ofSame rfl rfl rfl⟩
theorem reaches_setSp (v : Byte) (s : State) : Reaches s (s.setSp v) := ⟨.ofSame rfl rfl rfl rfl id rfl rfl, .ofSame rfl rfl rfl⟩
theorem reaches_setPc (v : Addr) (s : State) : Reaches s (s.setPc v) := ⟨.ofSame rfl rfl rfl rfl id rfl rfl, .ofSame rfl rfl rfl⟩
theorem reaches_setP {v : Byte} {s : State} (h : getFlag .u v = getFlag .u s.p) : Reaches s (s.setP v) :=
  ⟨.ofSame rfl rfl rfl rfl (fun e => h.trans e) rfl rfl, .ofSame rfl rfl rfl⟩
theorem reaches_statusFrom (v : Byte) (s : State) : Reaches s (s.setP (statusFrom v)) :=
  ⟨.ofSame rfl rfl rfl rfl (fun _ => by simp) rfl rfl, .ofSame rfl rfl rfl⟩

/-- A Bus read. -/
theorem reaches_busRead (addr : Addr) (s : State) : Reaches s (busRead addr s).2 :=
  ⟨kept_busRead addr s, (busRead_onlyDevices addr s).latched⟩

/-- A Bus write. -/
theorem reaches_busWrite (addr : Addr) (v : Byte) (s : State) : Reaches s (busWrite addr v s) :=
  ⟨kept_busWrite addr v s, (busWrite_stored addr v s).latched⟩

theorem reaches_busReadWord (addr : Addr) (s : State) : Reaches s (busReadWord addr s).2 := (reaches_busRead ..).trans (reaches_busRead ..)

/-! ### The shared operations -/

theorem reaches_push (v : Byte) (s : State) : Reaches s (push v s) := (reaches_busWrite ..).trans (reaches_setSp ..)

theorem reaches_pull (s : State) : Reaches s (pull s).2 := (reaches_setSp ..).trans (reaches_busRead ..)

theorem reaches_pushWord (w : Addr) (s : State) : Reaches s (pushWord w s) := (reaches_push ..).trans (reaches_push ..)

theorem reaches_pullWord (s : State) : Reaches s (pullWord s).2 := (reaches_pull ..).trans (reaches_pull ..)

theorem reaches_putFlag {f : Flag} (hf : f ≠ .u) (v : Bool) (s : State) : Reaches s (s.setP (putFlag f v s.p)) :=
  reaches_setP (getFlag_putFlag_other (Ne.symm hf) v s.p)

theorem reaches_enterInterrupt (setsBreak : Bool) (vector : Addr) (s : State) : Reaches s (enterInterrupt setsBreak vector s) := by
  unfold enterInterrupt
  have h1 := reaches_pushWord s.pc s
  have h2 : Reaches (pushWord s.pc s) (if setsBreak = true then (pushWord s.pc s).setP (putFlag .b true (pushWord s.pc s).p)
      else pushWord s.pc s) := by
    split
    · exact reaches_putFlag (by decide) _ _
    · exact .refl _
  exact (h1.trans h2).trans ((reaches_push ..).trans ((reaches_putFlag (by decide) _ _).trans
    ((reaches_busReadWord ..).trans (reaches_setPc ..))))

theorem reaches_softwareInterrupt (s : State) : Reaches s (softwareInterrupt s) := (reaches_setPc ..).trans (reaches_enterInterrupt ..)

theorem reaches_returnFromInterrupt (s : State) : Reaches s (returnFromInterrupt s) :=
  (reaches_pull s).trans ((reaches_statusFrom ..).trans ((reaches_pullWord ..).trans (reaches_setPc ..)))

theorem kept_setIrqPending (v : Bool) (s : State) : Kept s (s.setIrqPending v) := .ofSame rfl rfl rfl rfl id rfl rfl
theorem kept_setNmiPending (v : Bool) (s : State) : Kept s (s.setNmiPending v) := .ofSame rfl rfl rfl rfl id rfl rfl
theorem kept_setNmiDelay (v : Nat) (s : State) : Kept s (s.setNmiDelay v) := .ofSame rfl rfl rfl rfl id rfl rfl

/-- Boundary step 1. -/
theorem kept_updateTimers (cycles : Nat) (s : State) : Kept s (updateTimers cycles s) := by
  have h : Kept s (s.setTimers (s.timers.map (fun t => (t.update cycles).2))) := by
    refine kept_ofDevices (setTimers_onlyDevices (by simp)) (fun he u hu => ?_)
    obtain ⟨t, ht, rfl⟩ := List.mem_map.1 hu
    rw [update_ier]
    exact he t ht
  unfold updateTimers
  dsimp only
  split
  · exact h.trans (kept_ofDevices (assertIrq_onlyDevices _) id)
  · exact h

theorem kept_countDown (len : Nat) (s : State) : Kept s (countDown len s) := by
  unfold countDown
  split
  · split
    · exact (kept_setNmiDelay ..).trans (kept_setNmiPending ..)
    · exact kept_setNmiDelay ..
  · exact .refl s

theorem kept_irqGate (s : State) : Kept s (irqGate s) := by
  unfold irqGate
  split
  · exact (reaches_enterInterrupt ..).1.trans (kept_setIrqPending ..)
  · exact .refl s

theorem kept_nmiTest (s : State) : Kept s (nmiTest s) := by
  unfold nmiTest
  split
  · exact (reaches_enterInterrupt ..).1.trans (kept_setNmiPending ..)
  · exact .refl s

/-- The instruction boundary keeps all of it. -/
theorem kept_boundary (cycles len : Nat) (s : State) : Kept s (boundary cycles len s) :=
  (kept_updateTimers ..).trans ((kept_countDown ..).trans ((kept_irqGate ..).trans (kept_nmiTest ..)))

/-- Fetching keeps all of it. -/
theorem reaches_fetch (s : State) : Reaches s (fetch s).2 := by
  have hb : ∀ s : State, Reaches s (fetchByte s).2 := fun s => (reaches_busRead ..).trans (reaches_setPc ..)
  unfold fetch
  dsimp only
  split
  · exact hb s
  · exact (hb s).trans (hb _)
  · exact (hb s).trans ((hb _).trans (hb _))

/-! ### Operand accesses -/

theorem reaches_resolve (o : Operand) (s : State) : Reaches s (resolve o s).state := by
  cases o <;> first | exact .refl s | exact (reaches_busRead ..).trans (reaches_busRead ..)

theorem reaches_readSource (src : Source) (s : State) : Reaches s (readSource src s).2 := by
  cases src with
  | imm b => exact .refl s
  | mem o => exact (reaches_resolve o s).trans (reaches_busRead ..)

theorem reaches_storeTo (o : Operand) (v : Byte) (s : State) : Reaches s (storeTo o v s) := (reaches_resolve o s).trans (reaches_busWrite ..)

theorem reaches_modifyMemory {result before after : Byte → Byte → Byte} (hb : ∀ v p, getFlag .u (before v p) = getFlag .u p)
    (ha : ∀ v p, getFlag .u (after v p) = getFlag .u p) (o : Operand) (s : State) : Reaches s (modifyMemory result before after o s) :=
  (reaches_resolve o s).trans ((reaches_busRead ..).trans ((reaches_setP (hb _ _)).trans ((reaches_busWrite ..).trans (reaches_setP (ha _ _)))))

theorem reaches_jumpTarget (j : JumpTo) (s : State) : Reaches s (jumpTarget j s).2 := by
  cases j with
  | abs w => exact .refl s
  | ind w => exact reaches_busReadWord ..
  | iax w => exact reaches_busReadWord ..

end Sys2Proof.Machine
end

