-- ==== Sys2Proof/Laws/Exec.lean ====
section
/-! SUPPORT. What running any instruction can reach, said once for all of `Instr` (`exec_reaches`), and what one instruction step does with it. -/

namespace Sys2Proof.Machine

/-! ### The operations the meanings are made of -/

theorem unused_putZN (v p : Byte) : getFlag .u (putZN v p) = getFlag .u p := by simp
theorem unused_putSum (r : Sum) (p : Byte) : getFlag .u (putSum r p) = getFlag .u p := by simp
theorem unused_putCompare (reg m p : Byte) : getFlag .u (putCompare reg m p) = getFlag .u p := by simp
theorem unused_putBit (a m p : Byte) : getFlag .u (putBit a m p) = getFlag .u p := by simp
theorem unused_putTest (a m p : Byte) : getFlag .u (putTest a m p) = getFlag .u p := by simp
theorem unused_putShift (k : Shift) (v p : Byte) : getFlag .u (putShift k v p) = getFlag .u p := by simp

theorem reaches_loadA (v : Byte) (s : State) : Reaches s (loadA v s) := (reaches_setA ..).trans (reaches_setP (unused_putZN ..))
theorem reaches_loadX (v : Byte) (s : State) : Reaches s (loadX v s) := (reaches_setX ..).trans (reaches_setP (unused_putZN ..))
theorem reaches_loadY (v : Byte) (s : State) : Reaches s (loadY v s) := (reaches_setY ..).trans (reaches_setP (unused_putZN ..))

theorem reaches_lda (src : Source) (s : State) : Reaches s (lda src s) := (reaches_readSource ..).trans (reaches_loadA ..)
theorem reaches_ldx (src : Source) (s : State) : Reaches s (ldx src s) := (reaches_readSource ..).trans (reaches_loadX ..)
theorem reaches_ldy (src : Source) (s : State) : Reaches s (ldy src s) := (reaches_readSource ..).trans (reaches_loadY ..)

theorem reaches_adc (src : Source) (s : State) : Reaches s (adc src s) :=
  (reaches_readSource ..).trans ((reaches_setA ..).trans (reaches_setP (unused_putSum ..)))
theorem reaches_sbc (src : Source) (s : State) : Reaches s (sbc src s) :=
  (reaches_readSource ..).trans ((reaches_setA ..).trans (reaches_setP (unused_putSum ..)))
theorem reaches_compare (reg : Byte) (src : Source) (s : State) : Reaches s (compare reg src s) :=
  (reaches_readSource ..).trans (reaches_setP (unused_putCompare ..))
theorem reaches_incMemory (o : Operand) (s : State) : Reaches s (incMemory o s) :=
  reaches_modifyMemory (fun _ _ => rfl) (fun _ _ => unused_putZN ..) o s
theorem reaches_decMemory (o : Operand) (s : State) : Reaches s (decMemory o s) :=
  reaches_modifyMemory (fun _ _ => rfl) (fun _ _ => unused_putZN ..) o s

theorem reaches_logicA (op : Byte → Byte → Byte) (src : Source) (s : State) : Reaches s (logicA op src s) :=
  (reaches_readSource ..).trans (reaches_loadA ..)
theorem reaches_bitTest (o : Operand) (s : State) : Reaches s (bitTest o s) :=
  (reaches_readSource ..).trans (reaches_setP (unused_putBit ..))
theorem reaches_trb (o : Operand) (s : State) : Reaches s (trb o s) :=
  reaches_modifyMemory (fun _ _ => unused_putTest ..) (fun _ _ => rfl) o s
theorem reaches_tsb (o : Operand) (s : State) : Reaches s (tsb o s) :=
  reaches_modifyMemory (fun _ _ => unused_putTest ..) (fun _ _ => rfl) o s
theorem reaches_shiftMemory (k : Shift) (o : Operand) (s : State) : Reaches s (shiftMemory k o s) :=
  reaches_modifyMemory (fun _ _ => unused_putShift ..) (fun _ _ => rfl) o s
theorem reaches_shiftA (k : Shift) (s : State) : Reaches s (shiftA k s) :=
  (reaches_setA ..).trans (reaches_setP (unused_putShift ..))

theorem reaches_branch (c : Cond) (d : Byte) (s : State) : Reaches s (branch c d s) := by
  unfold branch
  split
  · exact reaches_setPc ..
  · exact .refl s
theorem reaches_jump (j : JumpTo) (s : State) : Reaches s (jump j s) := (reaches_jumpTarget ..).trans (reaches_setPc ..)
theorem reaches_callSubroutine (w : Addr) (s : State) : Reaches s (callSubroutine w s) := (reaches_pushWord ..).trans (reaches_setPc ..)
theorem reaches_returnFromSubroutine (s : State) : Reaches s (returnFromSubroutine s) := (reaches_pullWord ..).trans (reaches_setPc ..)

theorem reaches_pullA (s : State) : Reaches s (pullA s) := (reaches_pull s).trans (reaches_loadA ..)
theorem reaches_pullX (s : State) : Reaches s (pullX s) := (reaches_pull s).trans (reaches_loadX ..)
theorem reaches_pullY (s : State) : Reaches s (pullY s) := (reaches_pull s).trans (reaches_loadY ..)
theorem reaches_pullStatus (s : State) : Reaches s (pullStatus s) := (reaches_pull s).trans (reaches_statusFrom ..)
theorem reaches_writeFlag {f : Flag} (hf : f ≠ .u) (v : Bool) (s : State) : Reaches s (writeFlag f v s) := reaches_putFlag hf v s

/-! ### Every instruction -/

/-- Every instruction answers a next state, and reaches no further than `Reaches` says. -/
theorem exec_reaches (i : Instr) (s : State) : ∃ t, exec i s = .next t ∧ Reaches s t := by
  cases i
  all_goals refine ⟨_, rfl, ?_⟩
  case nop => exact .refl s
  case brk => exact reaches_softwareInterrupt s
  case rti => exact reaches_returnFromInterrupt s
  case rts => exact reaches_returnFromSubroutine s
  case jsr w => exact reaches_callSubroutine w s
  case txs => exact reaches_setSp s.x s
  case tax => exact reaches_loadX s.a s
  case tay => exact reaches_loadY s.a s
  case txa => exact reaches_loadA s.x s
  case tya => exact reaches_loadA s.y s
  case tsx => exact reaches_loadX s.sp s
  case inx => exact reaches_loadX (s.x + 1) s
  case iny => exact reaches_loadY (s.y + 1) s
  case dex => exact reaches_loadX (s.x - 1) s
  case dey => exact reaches_loadY (s.y - 1) s
  case incAcc => exact reaches_loadA (s.a + 1) s
  case decAcc => exact reaches_loadA (s.a - 1) s
  case pla => exact reaches_pullA s
  case plx => exact reaches_pullX s
  case ply => exact reaches_pullY s
  case plp => exact reaches_pullStatus s
  case clc => exact reaches_writeFlag (f := .c) (by decide) false s
  case sec => exact reaches_writeFlag (f := .c) (by decide) true s
  case cli => exact reaches_writeFlag (f := .i) (by decide) false s
  case sei => exact reaches_writeFlag (f := .i) (by decide) true s
  case cld => exact reaches_writeFlag (f := .d) (by decide) false s
  case sed => exact reaches_writeFlag (f := .d) (by decide) true s
  case clv => exact reaches_writeFlag (f := .v) (by decide) false s
  all_goals with_reducible first
    | exact reaches_softwareInterrupt s
    | exact reaches_lda _ s
    | exact reaches_ldx _ s
    | exact reaches_ldy _ s
    | exact reaches_storeTo _ _ s
    | exact reaches_adc _ s
    | exact reaches_sbc _ s
    | exact reaches_compare _ _ s
    | exact reaches_incMemory _ s
    | exact reaches_decMemory _ s
    | exact reaches_logicA _ _ s
    | exact reaches_bitTest _ s
    | exact reaches_trb _ s
    | exact reaches_tsb _ s
    | exact reaches_shiftMemory _ _ s
    | exact reaches_shiftA _ s
    | exact reaches_branch _ _ s
    | exact reaches_jump _ s
    | exact reaches_push _ s

/-- One instruction step is the fetch, the instruction's meaning, and the boundary: it answers a next state and keeps what the CPU cannot
touch. -/
theorem instructionStep_kept (s : State) : ∃ t, exec (fetch s).1 (fetch s).2 = .next t ∧
    instructionStep s = .next (boundary (cyclesOf (fetch s).1 (fetch s).2) (fetch s).1.len t) ∧
    Kept s (boundary (cyclesOf (fetch s).1 (fetch s).2) (fetch s).1.len t) := by
  obtain ⟨t, ht, hr⟩ := exec_reaches (fetch s).1 (fetch s).2
  refine ⟨t, ht, ?_, (reaches_fetch s).1.trans (hr.1.trans (kept_boundary ..))⟩
  unfold instructionStep
  dsimp only
  rw [ht]

end Sys2Proof.Machine
end

