-- ==== Sys2Proof/Laws/PlainRam.lean ====
section
/-! SUPPORT. The Bus and the interrupt entry over plain RAM and unmatched vectors, where no device takes part: each access is one memory access. -/

namespace Sys2Proof.Machine

theorem Unmatched.matching {s : State} {addr : Addr} (h : Unmatched s addr) : s.matching addr = [] := by
  unfold State.matching
  rw [List.filter_eq_nil_iff]
  intro r hr
  simp [h r hr]

/-- A Bus read where no region matches; `s` is any state with the same device table. -/
theorem busRead_plain {s u : State} {addr : Addr} (h : Unmatched s addr) (e : u.regions = s.regions) :
    busRead addr u = (u.memByte addr, u) :=
  busRead_unmatched (by unfold State.matching; rw [e]; exact h.matching)

/-- A Bus write to plain RAM; `s` is any state with the same device table and marks. -/
theorem busWrite_plain {s u : State} {addr : Addr} (v : Byte) (h : PlainRam s addr) (e : u.regions = s.regions)
    (m : u.readOnly = s.readOnly) : busWrite addr v u = u.memStore addr v := by
  have hr : u.isReadOnly addr = false := by
    have := h.2
    unfold State.isReadOnly at this ⊢
    rw [m]; exact this
  rw [busWrite_unmatched (by unfold State.matching; rw [e]; exact h.1.matching), hr]
  rfl

/-- Memory after an interrupt entry over plain RAM. -/
def entryMem (image : Byte) (s : State) : Memory :=
  ((s.mem.write (stackSlot s.sp 0).toNat (highByte s.pc)).write (stackSlot s.sp 255).toNat (lowByte s.pc)).write
    (stackSlot s.sp 254).toNat image

/-- The three stacked bytes, and every byte outside them. -/
theorem entryMem_read (image : Byte) (s : State) :
    (entryMem image s).read (stackSlot s.sp 0).toNat = highByte s.pc ∧
    (entryMem image s).read (stackSlot s.sp 255).toNat = lowByte s.pc ∧
    (entryMem image s).read (stackSlot s.sp 254).toNat = image ∧
    ∀ k : Addr, k ≠ stackSlot s.sp 0 → k ≠ stackSlot s.sp 255 → k ≠ stackSlot s.sp 254 →
      (entryMem image s).read k.toNat = s.memByte k := by
  have ne : ∀ {a b : Addr}, a ≠ b → a.toNat ≠ b.toNat := fun h e => h (BitVec.eq_of_toNat_eq e)
  have n01 := ne (stackSlot_ne s.sp (j := 0) (k := 255) (by decide) (by decide) (by decide))
  have n02 := ne (stackSlot_ne s.sp (j := 0) (k := 254) (by decide) (by decide) (by decide))
  have n12 := ne (stackSlot_ne s.sp (j := 255) (k := 254) (by decide) (by decide) (by decide))
  unfold entryMem
  refine ⟨?_, ?_, ?_, fun k h0 h1 h2 => ?_⟩
  · rw [Memory.read_write_other _ _ n02, Memory.read_write_other _ _ n01, Memory.read_write_same]
  · rw [Memory.read_write_other _ _ n12, Memory.read_write_same]
  · rw [Memory.read_write_same]
  · rw [Memory.read_write_other _ _ (ne h2), Memory.read_write_other _ _ (ne h1), Memory.read_write_other _ _ (ne h0)]
    rfl

/-- The interrupt entry where its six accesses are memory accesses: the whole next state. -/
theorem enterInterrupt_plain (setsBreak : Bool) {vector : Addr} {s : State} (h0 : PlainRam s (stackSlot s.sp 0))
    (h1 : PlainRam s (stackSlot s.sp 255)) (h2 : PlainRam s (stackSlot s.sp 254)) (v0 : Unmatched s vector)
    (v1 : Unmatched s (vector + 1)) (p0 : vector.toNat / 256 ≠ 1) (p1 : (vector + 1).toNat / 256 ≠ 1) (image : Byte)
    (hi : image = if setsBreak then putFlag .b true s.p else s.p) :
    enterInterrupt setsBreak vector s =
      (((s.setMem (entryMem image s)).setP (putFlag .i true image)).setSp (s.sp - 3)).setPc
        (addrOf (s.memByte vector) (s.memByte (vector + 1))) := by
  rw [enterInterrupt_eq]
  dsimp only
  rw [busWrite_plain (u := s) _ h0 rfl rfl, busWrite_plain (u := s.memStore _ _) _ h1 rfl rfl]
  generalize hw : (s.memStore (stackSlot s.sp 0) (highByte s.pc)).memStore (stackSlot s.sp 255) (lowByte s.pc) = w
  have wr : w.regions = s.regions := by rw [← hw]; rfl
  have wo : w.readOnly = s.readOnly := by rw [← hw]; rfl
  have wp : w.p = s.p := by rw [← hw]; rfl
  have wa : (w.memStore (stackSlot s.sp 254) image) = s.setMem (entryMem image s) := by rw [← hw]; rfl
  have hi' : (if setsBreak = true then putFlag .b true w.p else w.p) = image := by rw [wp, hi]
  rw [hi', busWrite_plain (s := s) (u := w.setP image) _ h2 wr wo]
  have e : (w.setP image).memStore (stackSlot s.sp 254) image = (s.setMem (entryMem image s)).setP image := by
    rw [← wa]; rfl
  rw [e]
  generalize hu : ((s.setMem (entryMem image s)).setP image).setP (putFlag .i true ((s.setMem (entryMem image s)).setP image).p) = u
  have ur : u.regions = s.regions := by rw [← hu]; rfl
  have um : ∀ a : Addr, a.toNat / 256 ≠ 1 → u.memByte a = s.memByte a := by
    intro a ha
    have := (entryMem_read image s).2.2.2 a (stackSlot_ne_of_page _ _ ha) (stackSlot_ne_of_page _ _ ha) (stackSlot_ne_of_page _ _ ha)
    rw [← hu]
    exact this
  have rd : busReadWord vector u = (addrOf (s.memByte vector) (s.memByte (vector + 1)), u) := by
    rw [busReadWord_eq, busRead_plain v0 ur]
    dsimp only
    rw [busRead_plain v1 ur, um _ p0, um _ p1]
  rw [rd, ← hu]
  rfl

end Sys2Proof.Machine
end

