-- ==== Sys2Proof/Laws/Frame.lean ====
section
/-! SUPPORT. Frames of the shared operations: what each leaves unchanged, as `Frame`, with memory told beside it. `KeepsMemory` is a frame of an
operation that stores nothing, `StoresAt` of one that stores at the addresses outside `P`. -/

namespace Sys2Proof.Machine

/-- The frame, and every byte of memory unchanged. -/
abbrev KeepsMemory (s t : State) (regs : List Reg) (written : List Flag) : Prop :=
  Frame s t regs written ∧ ∀ k, t.memByte k = s.memByte k

/-- The frame, and every byte of memory that satisfies `P` unchanged. -/
abbrev StoresAt (s t : State) (regs : List Reg) (written : List Flag) (P : Addr → Prop) : Prop :=
  Frame s t regs written ∧ ∀ k, P k → t.memByte k = s.memByte k

/-! ### With no device registered -/

theorem matching_quiet {s : State} {addr : Addr} (h : s.regions = []) : s.matching addr = [] := by
  unfold State.matching; rw [h]; rfl

theorem busRead_quiet {s : State} (addr : Addr) (h : s.regions = []) : (busRead addr s).2 = s := by
  rw [busRead_unmatched (matching_quiet h)]

theorem busWrite_quiet {s : State} (addr : Addr) (v : Byte) (h : s.regions = []) : ∃ m, busWrite addr v s = s.setMem m := by
  rw [busWrite_unmatched (matching_quiet h)]
  split
  · exact ⟨s.mem, rfl⟩
  · exact ⟨_, rfl⟩

theorem resolve_quiet {s : State} (o : Operand) (h : s.regions = []) : (resolve o s).state = s := by
  cases o <;> simp [resolve, indexed, zeroPagePointer, busRead_quiet, h]

theorem readSource_quiet {s : State} (src : Source) (h : s.regions = []) : (readSource src s).2 = s := by
  cases src <;> simp [readSource, busRead_quiet, resolve_quiet, h]

theorem jumpTarget_quiet {s : State} (j : JumpTo) (h : s.regions = []) : (jumpTarget j s).2 = s := by
  cases j <;> simp [jumpTarget, busReadWord, busRead_quiet, h]

/-! ### Building a frame -/

/-- The flags outside the written ones, from `FlagsAfter`. -/
theorem FlagsAfter.outside {p q : Byte} {l : List (Flag × Bool)} {written : List Flag} (h : FlagsAfter p q l)
    (hw : l.map Prod.fst ⊆ written) : ∀ f, f ∉ written → getFlag f q = getFlag f p :=
  fun f hf => h.2 f (fun m => hf (hw m))

/-- A frame from its parts: device callbacks lead from `s` to `u` (and to nothing but memory with no device registered), and `t` is `u` with
registers, P, PC and memory rewritten. -/
theorem Frame.of_devices {s u t : State} {regs : List Reg} {written : List Flag} (h : OnlyDevices s (u.setMem s.mem))
    (hq : s.regions = [] → ∃ m, u = s.setMem m)
    (ht : ∃ a x y sp p pc m, t = { u with a := a, x := x, y := y, sp := sp, p := p, pc := pc, mem := m })
    (ha : Reg.a ∉ regs → t.a = u.a) (hx : Reg.x ∉ regs → t.x = u.x) (hy : Reg.y ∉ regs → t.y = u.y)
    (hsp : Reg.sp ∉ regs → t.sp = u.sp) (hf : ∀ f, f ∉ written → getFlag f t.p = getFlag f u.p) : Frame s t regs written := by
  obtain ⟨a, x, y, sp, p, pc, m, rfl⟩ := ht
  exact {
    a := fun n => (ha n).trans h.a
    x := fun n => (hx n).trans h.x
    y := fun n => (hy n).trans h.y
    sp := fun n => (hsp n).trans h.sp
    flags := fun f n b => (hf f n).trans (h.flags f b)
    breakFlag := fun n e => h.breakFlag ((hf .b n) ▸ e)
    irq := h.irq
    nmi := h.nmi
    delay := h.delay
    readOnly := h.readOnly
    regions := h.regions
    instances := h.instances
    agenda := h.agenda
    params := h.params
    quietBreak := fun q n => by
      obtain ⟨m', e⟩ := hq q
      rw [hf .b n, e]
      rfl
    quiet := fun q => by
      obtain ⟨m', rfl⟩ := hq q
      exact ⟨rfl, rfl, rfl, rfl, rfl, rfl⟩ }

/-- A frame of an operation that accesses the Bus only to read: `u` is the state after its reads. -/
theorem KeepsMemory.of_reads {s u t : State} {regs : List Reg} {written : List Flag} (h : OnlyDevices s u) (hq : s.regions = [] → u = s)
    (ht : ∃ a x y sp p pc, t = { u with a := a, x := x, y := y, sp := sp, p := p, pc := pc })
    (ha : Reg.a ∉ regs → t.a = u.a) (hx : Reg.x ∉ regs → t.x = u.x) (hy : Reg.y ∉ regs → t.y = u.y)
    (hsp : Reg.sp ∉ regs → t.sp = u.sp) (hf : ∀ f, f ∉ written → getFlag f t.p = getFlag f u.p) : KeepsMemory s t regs written := by
  have hm : OnlyDevices s (u.setMem s.mem) := by
    have : u.setMem s.mem = u := by rw [← h.mem]; rfl
    rw [this]; exact h
  obtain ⟨a, x, y, sp, p, pc, ht⟩ := ht
  refine ⟨Frame.of_devices hm (fun q => ⟨s.mem, hq q⟩) ⟨a, x, y, sp, p, pc, u.mem, ht⟩ ha hx hy hsp hf, fun k => ?_⟩
  rw [ht]
  exact h.memByte k

/-! ### Operations that store nothing -/

theorem frame_loadA (v : Byte) (s : State) : KeepsMemory s (loadA v s) [.a] [.z, .n] :=
  .of_reads (.refl s) (fun _ => rfl) ⟨_, _, _, _, _, _, rfl⟩ (by simp) (fun _ => rfl) (fun _ => rfl) (fun _ => rfl)
    ((flagsAfter_putZN v s.p).outside (by simp [zn]))

theorem frame_loadX (v : Byte) (s : State) : KeepsMemory s (loadX v s) [.x] [.z, .n] :=
  .of_reads (.refl s) (fun _ => rfl) ⟨_, _, _, _, _, _, rfl⟩ (fun _ => rfl) (by simp) (fun _ => rfl) (fun _ => rfl)
    ((flagsAfter_putZN v s.p).outside (by simp [zn]))

theorem frame_loadY (v : Byte) (s : State) : KeepsMemory s (loadY v s) [.y] [.z, .n] :=
  .of_reads (.refl s) (fun _ => rfl) ⟨_, _, _, _, _, _, rfl⟩ (fun _ => rfl) (fun _ => rfl) (by simp) (fun _ => rfl)
    ((flagsAfter_putZN v s.p).outside (by simp [zn]))

theorem frame_lda (src : Source) (s : State) : KeepsMemory s (lda src s) [.a] [.z, .n] :=
  .of_reads (readSource_onlyDevices src s) (readSource_quiet src) ⟨_, _, _, _, _, _, rfl⟩ (by simp) (fun _ => rfl) (fun _ => rfl)
    (fun _ => rfl) ((flagsAfter_putZN ..).outside (by simp [zn]))

theorem frame_ldx (src : Source) (s : State) : KeepsMemory s (ldx src s) [.x] [.z, .n] :=
  .of_reads (readSource_onlyDevices src s) (readSource_quiet src) ⟨_, _, _, _, _, _, rfl⟩ (fun _ => rfl) (by simp) (fun _ => rfl)
    (fun _ => rfl) ((flagsAfter_putZN ..).outside (by simp [zn]))

theorem frame_ldy (src : Source) (s : State) : KeepsMemory s (ldy src s) [.y] [.z, .n] :=
  .of_reads (readSource_onlyDevices src s) (readSource_quiet src) ⟨_, _, _, _, _, _, rfl⟩ (fun _ => rfl) (fun _ => rfl) (by simp)
    (fun _ => rfl) ((flagsAfter_putZN ..).outside (by simp [zn]))

theorem frame_adc (src : Source) (s : State) : KeepsMemory s (adc src s) [.a] [.c, .z, .v, .n] :=
  .of_reads (readSource_onlyDevices src s) (readSource_quiet src) ⟨_, _, _, _, _, _, rfl⟩ (by simp) (fun _ => rfl) (fun _ => rfl)
    (fun _ => rfl) ((flagsAfter_putSum ..).outside (by simp [zn]))

theorem frame_sbc (src : Source) (s : State) : KeepsMemory s (sbc src s) [.a] [.c, .z, .v, .n] :=
  .of_reads (readSource_onlyDevices src s) (readSource_quiet src) ⟨_, _, _, _, _, _, rfl⟩ (by simp) (fun _ => rfl) (fun _ => rfl)
    (fun _ => rfl) ((flagsAfter_putSum ..).outside (by simp [zn]))

theorem frame_compare (reg : Byte) (src : Source) (s : State) : KeepsMemory s (compare reg src s) [] [.c, .z, .n] :=
  .of_reads (readSource_onlyDevices src s) (readSource_quiet src) ⟨_, _, _, _, _, _, rfl⟩ (fun _ => rfl) (fun _ => rfl) (fun _ => rfl)
    (fun _ => rfl) ((flagsAfter_putCompare ..).outside (by simp))

theorem frame_logicA (op : Byte → Byte → Byte) (src : Source) (s : State) : KeepsMemory s (logicA op src s) [.a] [.z, .n] :=
  .of_reads (readSource_onlyDevices src s) (readSource_quiet src) ⟨_, _, _, _, _, _, rfl⟩ (by simp) (fun _ => rfl) (fun _ => rfl)
    (fun _ => rfl) ((flagsAfter_putZN ..).outside (by simp [zn]))

theorem frame_bitTest (o : Operand) (s : State) : KeepsMemory s (bitTest o s) [] [.z, .v, .n] :=
  .of_reads (readSource_onlyDevices (.mem o) s) (readSource_quiet (.mem o)) ⟨_, _, _, _, _, _, rfl⟩ (fun _ => rfl) (fun _ => rfl)
    (fun _ => rfl) (fun _ => rfl) ((flagsAfter_putBit ..).outside (by simp))

theorem frame_shiftA (k : Shift) (s : State) : KeepsMemory s (shiftA k s) [.a] [.c, .z, .n] :=
  .of_reads (.refl s) (fun _ => rfl) ⟨_, _, _, _, _, _, rfl⟩ (by simp) (fun _ => rfl) (fun _ => rfl) (fun _ => rfl)
    ((flagsAfter_putShift ..).outside (by simp [zn]))

theorem frame_writeFlag (f : Flag) (v : Bool) (s : State) : KeepsMemory s (writeFlag f v s) [] [f] :=
  .of_reads (.refl s) (fun _ => rfl) ⟨_, _, _, _, _, _, rfl⟩ (fun _ => rfl) (fun _ => rfl) (fun _ => rfl) (fun _ => rfl)
    ((flagsAfter_putFlag ..).outside (by simp))

theorem frame_setSp (v : Byte) (s : State) : KeepsMemory s (s.setSp v) [.sp] [] :=
  .of_reads (.refl s) (fun _ => rfl) ⟨_, _, _, _, _, _, rfl⟩ (fun _ => rfl) (fun _ => rfl) (fun _ => rfl) (by simp) (fun _ _ => rfl)

theorem frame_setPc (v : Addr) (s : State) : KeepsMemory s (s.setPc v) [] [] :=
  .of_reads (.refl s) (fun _ => rfl) ⟨_, _, _, _, _, _, rfl⟩ (fun _ => rfl) (fun _ => rfl) (fun _ => rfl) (fun _ => rfl) (fun _ _ => rfl)

theorem frame_refl (s : State) : KeepsMemory s s [] [] :=
  .of_reads (.refl s) (fun _ => rfl) ⟨_, _, _, _, _, _, rfl⟩ (fun _ => rfl) (fun _ => rfl) (fun _ => rfl) (fun _ => rfl) (fun _ _ => rfl)

theorem frame_branch (c : Cond) (d : Byte) (s : State) : KeepsMemory s (branch c d s) [] [] := by
  unfold branch
  split
  · exact frame_setPc ..
  · exact frame_refl s

theorem frame_jump (j : JumpTo) (s : State) : KeepsMemory s (jump j s) [] [] :=
  .of_reads (jumpTarget_onlyDevices j s) (jumpTarget_quiet j) ⟨_, _, _, _, _, _, rfl⟩ (fun _ => rfl) (fun _ => rfl) (fun _ => rfl)
    (fun _ => rfl) (fun _ _ => rfl)

theorem frame_pullA (s : State) : KeepsMemory s (pullA s) [.a, .sp] [.z, .n] := by
  unfold pullA
  rw [pull_eq]
  exact .of_reads (busRead_onlyDevices _ s) (busRead_quiet _) ⟨_, _, _, _, _, _, rfl⟩ (by simp) (fun _ => rfl) (fun _ => rfl) (by simp)
    ((flagsAfter_putZN ..).outside (by simp [zn]))

theorem frame_pullX (s : State) : KeepsMemory s (pullX s) [.x, .sp] [.z, .n] := by
  unfold pullX
  rw [pull_eq]
  exact .of_reads (busRead_onlyDevices _ s) (busRead_quiet _) ⟨_, _, _, _, _, _, rfl⟩ (fun _ => rfl) (by simp) (fun _ => rfl) (by simp)
    ((flagsAfter_putZN ..).outside (by simp [zn]))

theorem frame_pullY (s : State) : KeepsMemory s (pullY s) [.y, .sp] [.z, .n] := by
  unfold pullY
  rw [pull_eq]
  exact .of_reads (busRead_onlyDevices _ s) (busRead_quiet _) ⟨_, _, _, _, _, _, rfl⟩ (fun _ => rfl) (fun _ => rfl) (by simp) (by simp)
    ((flagsAfter_putZN ..).outside (by simp [zn]))

theorem mem_allFlags (f : Flag) : f ∈ allFlags := by cases f <;> decide

theorem frame_pullStatus (s : State) : KeepsMemory s (pullStatus s) [.sp] allFlags := by
  unfold pullStatus
  rw [pull_eq]
  exact .of_reads (busRead_onlyDevices _ s) (busRead_quiet _) ⟨_, _, _, _, _, _, rfl⟩ (fun _ => rfl) (fun _ => rfl) (fun _ => rfl) (by simp)
    (fun f hf => absurd (mem_allFlags f) hf)

theorem frame_returnFromSubroutine (s : State) : KeepsMemory s (returnFromSubroutine s) [.sp] [] := by
  unfold returnFromSubroutine
  rw [pullWord_eq]
  exact .of_reads ((busRead_onlyDevices _ s).trans (busRead_onlyDevices _ _)) (fun q => by simp [busRead_quiet, q])
    ⟨_, _, _, _, _, _, rfl⟩ (fun _ => rfl) (fun _ => rfl) (fun _ => rfl) (by simp) (fun _ _ => rfl)

/-! ### Operations that store -/

theorem frame_storeTo (o : Operand) (v : Byte) (s : State) :
    StoresAt s (storeTo o v s) [] [] (fun k => k ≠ (resolve o s).ea) := by
  have h := storeTo_stored o v s
  refine ⟨.of_devices h.devices (fun q => ?_) ⟨_, _, _, _, _, _, _, rfl⟩ (fun _ => rfl) (fun _ => rfl) (fun _ => rfl) (fun _ => rfl)
    (fun _ _ => rfl), fun k hk => h.memByte_other hk⟩
  obtain ⟨m, hm⟩ := busWrite_quiet (resolve o s).ea v (s := (resolve o s).state) (by rw [resolve_quiet o q]; exact q)
  refine ⟨m, ?_⟩
  unfold storeTo
  dsimp only
  rw [hm, resolve_quiet o q]

theorem frame_push (v : Byte) (s : State) : StoresAt s (push v s) [.sp] [] (fun k => k ≠ stackSlot s.sp 0) := by
  rw [push_eq]
  have h := busWrite_stored (stackSlot s.sp 0) v s
  exact ⟨.of_devices h.devices (busWrite_quiet _ v) ⟨_, _, _, _, _, _, _, rfl⟩ (fun _ => rfl) (fun _ => rfl) (fun _ => rfl) (by simp)
    (fun _ _ => rfl), fun k hk => h.memByte_other hk⟩

theorem frame_callSubroutine (w : Addr) (s : State) :
    StoresAt s (callSubroutine w s) [.sp] [] (fun k => k ≠ stackSlot s.sp 0 ∧ k ≠ stackSlot s.sp 255) := by
  unfold callSubroutine
  rw [pushWord_eq]
  have h1 := busWrite_stored (stackSlot s.sp 0) (highByte (s.pc - 1)) s
  have h2 := busWrite_stored (stackSlot s.sp 255) (lowByte (s.pc - 1)) (busWrite (stackSlot s.sp 0) (highByte (s.pc - 1)) s)
  refine ⟨.of_devices (h1.devices.trans (h2.devices.setMem s.mem)) (fun q => ?_) ⟨_, _, _, _, _, _, _, rfl⟩ (fun _ => rfl) (fun _ => rfl)
    (fun _ => rfl) (by simp) (fun _ _ => rfl), fun k hk => (h2.memByte_other hk.2).trans (h1.memByte_other hk.1)⟩
  obtain ⟨m, hm⟩ := busWrite_quiet (stackSlot s.sp 0) (highByte (s.pc - 1)) q
  rw [hm]
  obtain ⟨m', hm'⟩ := busWrite_quiet (s := s.setMem m) (stackSlot s.sp 255) (lowByte (s.pc - 1)) q
  exact ⟨m, by rw [hm']; rfl⟩

/-- A read-modify-write whose two status changes write flags among `written`. -/
theorem frame_modifyMemory (result : Byte → Byte → Byte) {before after : Byte → Byte → Byte} (o : Operand) (s : State) (written : List Flag)
    (hb : ∀ v p f, f ∉ written → getFlag f (before v p) = getFlag f p) (ha : ∀ v p f, f ∉ written → getFlag f (after v p) = getFlag f p) :
    StoresAt s (modifyMemory result before after o s) [] written (fun k => k ≠ (resolve o s).ea) := by
  have h1 : OnlyDevices s (busRead (resolve o s).ea (resolve o s).state).2 := (resolve_onlyDevices o s).trans (busRead_onlyDevices ..)
  have hq1 : s.regions = [] → (busRead (resolve o s).ea (resolve o s).state).2 = s := fun q => by
    rw [busRead_quiet _ (by rw [resolve_quiet o q]; exact q), resolve_quiet o q]
  unfold modifyMemory
  dsimp only
  generalize busRead (resolve o s).ea (resolve o s).state = got at h1 hq1
  obtain ⟨v, u⟩ := got
  dsimp only at h1 hq1 ⊢
  have h2 := busWrite_stored (resolve o s).ea (result v u.p) (u.setP (before v u.p))
  have hq2 : s.regions = [] → ∃ m, busWrite (resolve o s).ea (result v u.p) (u.setP (before v u.p)) = (s.setP (before v s.p)).setMem m := by
    intro q
    rw [hq1 q]
    exact busWrite_quiet _ _ q
  generalize busWrite (resolve o s).ea (result v u.p) (u.setP (before v u.p)) = w at h2 hq2
  refine ⟨?_, fun k hk => (h2.memByte_other hk).trans (h1.memByte k)⟩
  exact {
    a := fun _ => h2.a.trans h1.a
    x := fun _ => h2.x.trans h1.x
    y := fun _ => h2.y.trans h1.y
    sp := fun _ => h2.sp.trans h1.sp
    flags := fun f n b => (ha _ _ _ n).trans ((h2.flags f b).trans ((hb _ _ _ n).trans (h1.flags f b)))
    breakFlag := fun n e => h1.breakFlag ((hb _ _ _ n) ▸ h2.breakFlag ((ha _ _ _ n) ▸ e))
    irq := fun e => h2.irq (h1.irq e)
    nmi := fun e => h2.nmi (h1.nmi e)
    delay := (h1.latched.trans (t := u) ⟨h2.irq, h2.nmi, h2.delay⟩).delay
    readOnly := h2.readOnly.trans h1.readOnly
    regions := h2.regions.trans h1.regions
    instances := h2.instances.trans h1.instances
    agenda := h2.agenda.trans h1.agenda
    params := h2.params.trans h1.params
    quietBreak := fun q n => by
      obtain ⟨m, e⟩ := hq2 q
      rw [e]
      exact (ha _ _ _ n).trans (hb _ _ _ n)
    quiet := fun q => by
      obtain ⟨m, e⟩ := hq2 q
      rw [e]
      exact ⟨rfl, rfl, rfl, rfl, rfl, rfl⟩ }

theorem frame_incMemory (o : Operand) (s : State) : StoresAt s (incMemory o s) [] [.z, .n] (fun k => k ≠ (resolve o s).ea) :=
  frame_modifyMemory _ o s _ (fun _ _ _ _ => rfl) (fun _ p => (flagsAfter_putZN _ p).outside (by simp [zn]))

theorem frame_decMemory (o : Operand) (s : State) : StoresAt s (decMemory o s) [] [.z, .n] (fun k => k ≠ (resolve o s).ea) :=
  frame_modifyMemory _ o s _ (fun _ _ _ _ => rfl) (fun _ p => (flagsAfter_putZN _ p).outside (by simp [zn]))

theorem frame_trb (o : Operand) (s : State) : StoresAt s (trb o s) [] [.z] (fun k => k ≠ (resolve o s).ea) :=
  frame_modifyMemory _ o s _ (fun _ p => (flagsAfter_putTest _ _ p).outside (by simp)) (fun _ _ _ _ => rfl)

theorem frame_tsb (o : Operand) (s : State) : StoresAt s (tsb o s) [] [.z] (fun k => k ≠ (resolve o s).ea) :=
  frame_modifyMemory _ o s _ (fun _ p => (flagsAfter_putTest _ _ p).outside (by simp)) (fun _ _ _ _ => rfl)

theorem frame_shiftMemory (k : Shift) (o : Operand) (s : State) :
    StoresAt s (shiftMemory k o s) [] [.c, .z, .n] (fun j => j ≠ (resolve o s).ea) :=
  frame_modifyMemory _ o s _ (fun _ p => (flagsAfter_putShift _ _ p).outside (by simp [zn])) (fun _ _ _ _ => rfl)

end Sys2Proof.Machine
end

