-- ==== Sys2Proof/Laws/Params.lean ====
section
/-! SUPPORT. The parameters of R8: the defaults as spec lemmas of the standard parameters, and that a machine can be given any functions. -/

namespace Sys2Proof.Machine

@[simp] theorem listedOr_nil {α β : Type} [DecidableEq α] (k : α) (d : β) : listedOr [] k d = d := rfl

/-- A value listed for every argument of a list is the parameter's value at each of them. -/
theorem listedOr_map {α β : Type} [DecidableEq α] (f : α → β) (d : β) {l : List α} {k : α} (h : k ∈ l) :
    listedOr (l.map fun j => (j, f j)) k d = f k := by
  induction l with
  | nil => cases h
  | cons j l ih =>
    unfold listedOr
    split
    · rename_i e; cases e
    · rename_i e
      simp only [List.map_cons, List.cons.injEq, Prod.mk.injEq] at e
      obtain ⟨⟨rfl, rfl⟩, rfl⟩ := e
      split
      · rename_i e; rw [e]
      · rename_i hne
        exact ih (by rcases List.mem_cons.1 h with e | e; exact absurd e.symm hne; exact e)

@[simp] theorem baseCycles_standard (op : Byte) : baseCycles Params.standard op = defaultBaseCycles op := rfl
@[simp] theorem decAdc_standard : decAdc Params.standard = defaultDecAdc := rfl
@[simp] theorem decSbc_standard : decSbc Params.standard = defaultDecSbc := rfl
@[simp] theorem readClears_standard (r : TimerReg) : readClears Params.standard r = defaultReadClears r := rfl
@[simp] theorem writeClears_standard (r : TimerReg) : writeClears Params.standard r = defaultWriteClears r := rfl

/-- All 256 bytes. -/
def allBytes : List Byte := (List.range 256).map (BitVec.ofNat 8)

theorem mem_allBytes (b : Byte) : b ∈ allBytes :=
  List.mem_map.2 ⟨b.toNat, List.mem_range.2 b.isLt, by simp⟩

/-- The arguments of a decimal function. -/
def allDecimalArguments : List (Byte × Byte × Bool) :=
  allBytes.flatMap fun a => allBytes.flatMap fun m => [(a, m, false), (a, m, true)]

theorem mem_allDecimalArguments (a m : Byte) (c : Bool) : (a, m, c) ∈ allDecimalArguments := by
  refine List.mem_flatMap.2 ⟨a, mem_allBytes a, List.mem_flatMap.2 ⟨m, mem_allBytes m, ?_⟩⟩
  cases c <;> simp

theorem mem_allTimerRegs (r : TimerReg) : r ∈ allTimerRegs := by cases r <;> decide

/-- Any functions can be a machine's parameters. -/
theorem exists_params (base : Byte → Nat) (add sub : DecimalFn) (rc wc : TimerReg → Byte) :
    ∃ q : Params, (∀ op, baseCycles q op = base op) ∧ decAdc q = add ∧ decSbc q = sub ∧ (∀ r, readClears q r = rc r) ∧
      ∀ r, writeClears q r = wc r :=
  ⟨{ baseCycles := allBytes.map fun op => (op, base op)
     decAdc := allDecimalArguments.map fun k => (k, add k.1 k.2.1 k.2.2)
     decSbc := allDecimalArguments.map fun k => (k, sub k.1 k.2.1 k.2.2)
     readClears := allTimerRegs.map fun r => (r, rc r)
     writeClears := allTimerRegs.map fun r => (r, wc r) },
    fun op => listedOr_map base _ (mem_allBytes op),
    funext fun a => funext fun m => funext fun c =>
      listedOr_map (fun k : Byte × Byte × Bool => add k.1 k.2.1 k.2.2) _ (mem_allDecimalArguments a m c),
    funext fun a => funext fun m => funext fun c =>
      listedOr_map (fun k : Byte × Byte × Bool => sub k.1 k.2.1 k.2.2) _ (mem_allDecimalArguments a m c),
    fun r => listedOr_map rc _ (mem_allTimerRegs r), fun r => listedOr_map wc _ (mem_allTimerRegs r)⟩

/-- Every default base value is at least 1 (R127). -/
theorem defaultBaseCycles_pos (op : Byte) : 1 ≤ defaultBaseCycles op := by
  have h : ∀ row < 16, ∀ column < 16, 1 ≤ ((baseCyclesLow ++ baseCyclesHigh).getD row []).getD column 7 := by decide
  have := op.isLt
  exact h _ (by omega) _ (Nat.mod_lt _ (by decide))

/-- The standard parameters are what the spec asks of parameters. -/
theorem wellSupplied_standard : WellSupplied Params.standard where
  positive op := defaultBaseCycles_pos op
  slots := by decide
  addVector := by decide
  subVector := by decide
  readMasks r := by cases r <;> decide
  writeMasks r := by cases r <;> decide

end Sys2Proof.Machine
end

