-- ==== Sys2Proof/Laws/PerInstr.lean ====
section
/-! SUPPORT. Statements made for every instruction, one lemma per constructor. -/

namespace Sys2Proof.Laws

/-- An encoding has exactly the length its mode fixes (R90, R91), and the opcode's table entry announces that length. -/
def EncodedLength.Statement (i : Instr) : Prop :=
  (encode i).length = i.len ∧ (opcodeEntry i.opcode).len = i.len ∧ WellFormedBytes i.mode (encode i) = true

theorem EncodedLength.ldaImm (b : Byte) : EncodedLength.Statement (.ldaImm b) :=
  ⟨rfl, show (opcodeEntry 0xA9#8).len = 2 from rfl, rfl⟩
theorem EncodedLength.ldaZp (b : Byte) : EncodedLength.Statement (.ldaZp b) :=
  ⟨rfl, show (opcodeEntry 0xA5#8).len = 2 from rfl, rfl⟩
theorem EncodedLength.ldaZpx (b : Byte) : EncodedLength.Statement (.ldaZpx b) :=
  ⟨rfl, show (opcodeEntry 0xB5#8).len = 2 from rfl, rfl⟩
theorem EncodedLength.ldaAbs (w : Addr) : EncodedLength.Statement (.ldaAbs w) :=
  ⟨rfl, show (opcodeEntry 0xAD#8).len = 3 from rfl, rfl⟩
theorem EncodedLength.ldaAbx (w : Addr) : EncodedLength.Statement (.ldaAbx w) :=
  ⟨rfl, show (opcodeEntry 0xBD#8).len = 3 from rfl, rfl⟩
theorem EncodedLength.ldaAby (w : Addr) : EncodedLength.Statement (.ldaAby w) :=
  ⟨rfl, show (opcodeEntry 0xB9#8).len = 3 from rfl, rfl⟩
theorem EncodedLength.ldaIzx (b : Byte) : EncodedLength.Statement (.ldaIzx b) :=
  ⟨rfl, show (opcodeEntry 0xA1#8).len = 2 from rfl, rfl⟩
theorem EncodedLength.ldaIzy (b : Byte) : EncodedLength.Statement (.ldaIzy b) :=
  ⟨rfl, show (opcodeEntry 0xB1#8).len = 2 from rfl, rfl⟩
theorem EncodedLength.ldaIzp (b : Byte) : EncodedLength.Statement (.ldaIzp b) :=
  ⟨rfl, show (opcodeEntry 0xB2#8).len = 2 from rfl, rfl⟩
theorem EncodedLength.ldxImm (b : Byte) : EncodedLength.Statement (.ldxImm b) :=
  ⟨rfl, show (opcodeEntry 0xA2#8).len = 2 from rfl, rfl⟩
theorem EncodedLength.ldxZp (b : Byte) : EncodedLength.Statement (.ldxZp b) :=
  ⟨rfl, show (opcodeEntry 0xA6#8).len = 2 from rfl, rfl⟩
theorem EncodedLength.ldxZpy (b : Byte) : EncodedLength.Statement (.ldxZpy b) :=
  ⟨rfl, show (opcodeEntry 0xB6#8).len = 2 from rfl, rfl⟩
theorem EncodedLength.ldxAbs (w : Addr) : EncodedLength.Statement (.ldxAbs w) :=
  ⟨rfl, show (opcodeEntry 0xAE#8).len = 3 from rfl, rfl⟩
theorem EncodedLength.ldxAby (w : Addr) : EncodedLength.Statement (.ldxAby w) :=
  ⟨rfl, show (opcodeEntry 0xBE#8).len = 3 from rfl, rfl⟩
theorem EncodedLength.ldyImm (b : Byte) : EncodedLength.Statement (.ldyImm b) :=
  ⟨rfl, show (opcodeEntry 0xA0#8).len = 2 from rfl, rfl⟩
theorem EncodedLength.ldyZp (b : Byte) : EncodedLength.Statement (.ldyZp b) :=
  ⟨rfl, show (opcodeEntry 0xA4#8).len = 2 from rfl, rfl⟩
theorem EncodedLength.ldyZpx (b : Byte) : EncodedLength.Statement (.ldyZpx b) :=
  ⟨rfl, show (opcodeEntry 0xB4#8).len = 2 from rfl, rfl⟩
theorem EncodedLength.ldyAbs (w : Addr) : EncodedLength.Statement (.ldyAbs w) :=
  ⟨rfl, show (opcodeEntry 0xAC#8).len = 3 from rfl, rfl⟩
theorem EncodedLength.ldyAbx (w : Addr) : EncodedLength.Statement (.ldyAbx w) :=
  ⟨rfl, show (opcodeEntry 0xBC#8).len = 3 from rfl, rfl⟩
theorem EncodedLength.staZp (b : Byte) : EncodedLength.Statement (.staZp b) :=
  ⟨rfl, show (opcodeEntry 0x85#8).len = 2 from rfl, rfl⟩
theorem EncodedLength.staZpx (b : Byte) : EncodedLength.Statement (.staZpx b) :=
  ⟨rfl, show (opcodeEntry 0x95#8).len = 2 from rfl, rfl⟩
theorem EncodedLength.staAbs (w : Addr) : EncodedLength.Statement (.staAbs w) :=
  ⟨rfl, show (opcodeEntry 0x8D#8).len = 3 from rfl, rfl⟩
theorem EncodedLength.staAbx (w : Addr) : EncodedLength.Statement (.staAbx w) :=
  ⟨rfl, show (opcodeEntry 0x9D#8).len = 3 from rfl, rfl⟩
theorem EncodedLength.staAby (w : Addr) : EncodedLength.Statement (.staAby w) :=
  ⟨rfl, show (opcodeEntry 0x99#8).len = 3 from rfl, rfl⟩
theorem EncodedLength.staIzx (b : Byte) : EncodedLength.Statement (.staIzx b) :=
  ⟨rfl, show (opcodeEntry 0x81#8).len = 2 from rfl, rfl⟩
theorem EncodedLength.staIzy (b : Byte) : EncodedLength.Statement (.staIzy b) :=
  ⟨rfl, show (opcodeEntry 0x91#8).len = 2 from rfl, rfl⟩
theorem EncodedLength.staIzp (b : Byte) : EncodedLength.Statement (.staIzp b) :=
  ⟨rfl, show (opcodeEntry 0x92#8).len = 2 from rfl, rfl⟩
theorem EncodedLength.stxZp (b : Byte) : EncodedLength.Statement (.stxZp b) :=
  ⟨rfl, show (opcodeEntry 0x86#8).len = 2 from rfl, rfl⟩
theorem EncodedLength.stxZpy (b : Byte) : EncodedLength.Statement (.stxZpy b) :=
  ⟨rfl, show (opcodeEntry 0x96#8).len = 2 from rfl, rfl⟩
theorem EncodedLength.stxAbs (w : Addr) : EncodedLength.Statement (.stxAbs w) :=
  ⟨rfl, show (opcodeEntry 0x8E#8).len = 3 from rfl, rfl⟩
theorem EncodedLength.styZp (b : Byte) : EncodedLength.Statement (.styZp b) :=
  ⟨rfl, show (opcodeEntry 0x84#8).len = 2 from rfl, rfl⟩
theorem EncodedLength.styZpx (b : Byte) : EncodedLength.Statement (.styZpx b) :=
  ⟨rfl, show (opcodeEntry 0x94#8).len = 2 from rfl, rfl⟩
theorem EncodedLength.styAbs (w : Addr) : EncodedLength.Statement (.styAbs w) :=
  ⟨rfl, show (opcodeEntry 0x8C#8).len = 3 from rfl, rfl⟩
theorem EncodedLength.stzZp (b : Byte) : EncodedLength.Statement (.stzZp b) :=
  ⟨rfl, show (opcodeEntry 0x64#8).len = 2 from rfl, rfl⟩
theorem EncodedLength.stzZpx (b : Byte) : EncodedLength.Statement (.stzZpx b) :=
  ⟨rfl, show (opcodeEntry 0x74#8).len = 2 from rfl, rfl⟩
theorem EncodedLength.stzAbs (w : Addr) : EncodedLength.Statement (.stzAbs w) :=
  ⟨rfl, show (opcodeEntry 0x9C#8).len = 3 from rfl, rfl⟩
theorem EncodedLength.stzAbx (w : Addr) : EncodedLength.Statement (.stzAbx w) :=
  ⟨rfl, show (opcodeEntry 0x9E#8).len = 3 from rfl, rfl⟩
theorem EncodedLength.tax : EncodedLength.Statement (.tax) :=
  ⟨rfl, show (opcodeEntry 0xAA#8).len = 1 from rfl, rfl⟩
theorem EncodedLength.tay : EncodedLength.Statement (.tay) :=
  ⟨rfl, show (opcodeEntry 0xA8#8).len = 1 from rfl, rfl⟩
theorem EncodedLength.txa : EncodedLength.Statement (.txa) :=
  ⟨rfl, show (opcodeEntry 0x8A#8).len = 1 from rfl, rfl⟩
theorem EncodedLength.tya : EncodedLength.Statement (.tya) :=
  ⟨rfl, show (opcodeEntry 0x98#8).len = 1 from rfl, rfl⟩
theorem EncodedLength.tsx : EncodedLength.Statement (.tsx) :=
  ⟨rfl, show (opcodeEntry 0xBA#8).len = 1 from rfl, rfl⟩
theorem EncodedLength.txs : EncodedLength.Statement (.txs) :=
  ⟨rfl, show (opcodeEntry 0x9A#8).len = 1 from rfl, rfl⟩
theorem EncodedLength.adcImm (b : Byte) : EncodedLength.Statement (.adcImm b) :=
  ⟨rfl, show (opcodeEntry 0x69#8).len = 2 from rfl, rfl⟩
theorem EncodedLength.adcZp (b : Byte) : EncodedLength.Statement (.adcZp b) :=
  ⟨rfl, show (opcodeEntry 0x65#8).len = 2 from rfl, rfl⟩
theorem EncodedLength.adcZpx (b : Byte) : EncodedLength.Statement (.adcZpx b) :=
  ⟨rfl, show (opcodeEntry 0x75#8).len = 2 from rfl, rfl⟩
theorem EncodedLength.adcAbs (w : Addr) : EncodedLength.Statement (.adcAbs w) :=
  ⟨rfl, show (opcodeEntry 0x6D#8).len = 3 from rfl, rfl⟩
theorem EncodedLength.adcAbx (w : Addr) : EncodedLength.Statement (.adcAbx w) :=
  ⟨rfl, show (opcodeEntry 0x7D#8).len = 3 from rfl, rfl⟩
theorem EncodedLength.adcAby (w : Addr) : EncodedLength.Statement (.adcAby w) :=
  ⟨rfl, show (opcodeEntry 0x79#8).len = 3 from rfl, rfl⟩
theorem EncodedLength.adcIzx (b : Byte) : EncodedLength.Statement (.adcIzx b) :=
  ⟨rfl, show (opcodeEntry 0x61#8).len = 2 from rfl, rfl⟩
theorem EncodedLength.adcIzy (b : Byte) : EncodedLength.Statement (.adcIzy b) :=
  ⟨rfl, show (opcodeEntry 0x71#8).len = 2 from rfl, rfl⟩
theorem EncodedLength.adcIzp (b : Byte) : EncodedLength.Statement (.adcIzp b) :=
  ⟨rfl, show (opcodeEntry 0x72#8).len = 2 from rfl, rfl⟩
theorem EncodedLength.sbcImm (b : Byte) : EncodedLength.Statement (.sbcImm b) :=
  ⟨rfl, show (opcodeEntry 0xE9#8).len = 2 from rfl, rfl⟩
theorem EncodedLength.sbcZp (b : Byte) : EncodedLength.Statement (.sbcZp b) :=
  ⟨rfl, show (opcodeEntry 0xE5#8).len = 2 from rfl, rfl⟩
theorem EncodedLength.sbcZpx (b : Byte) : EncodedLength.Statement (.sbcZpx b) :=
  ⟨rfl, show (opcodeEntry 0xF5#8).len = 2 from rfl, rfl⟩
theorem EncodedLength.sbcAbs (w : Addr) : EncodedLength.Statement (.sbcAbs w) :=
  ⟨rfl, show (opcodeEntry 0xED#8).len = 3 from rfl, rfl⟩
theorem EncodedLength.sbcAbx (w : Addr) : EncodedLength.Statement (.sbcAbx w) :=
  ⟨rfl, show (opcodeEntry 0xFD#8).len = 3 from rfl, rfl⟩
theorem EncodedLength.sbcAby (w : Addr) : EncodedLength.Statement (.sbcAby w) :=
  ⟨rfl, show (opcodeEntry 0xF9#8).len = 3 from rfl, rfl⟩
theorem EncodedLength.sbcIzx (b : Byte) : EncodedLength.Statement (.sbcIzx b) :=
  ⟨rfl, show (opcodeEntry 0xE1#8).len = 2 from rfl, rfl⟩
theorem EncodedLength.sbcIzy (b : Byte) : EncodedLength.Statement (.sbcIzy b) :=
  ⟨rfl, show (opcodeEntry 0xF1#8).len = 2 from rfl, rfl⟩
theorem EncodedLength.sbcIzp (b : Byte) : EncodedLength.Statement (.sbcIzp b) :=
  ⟨rfl, show (opcodeEntry 0xF2#8).len = 2 from rfl, rfl⟩
theorem EncodedLength.cmpImm (b : Byte) : EncodedLength.Statement (.cmpImm b) :=
  ⟨rfl, show (opcodeEntry 0xC9#8).len = 2 from rfl, rfl⟩
theorem EncodedLength.cmpZp (b : Byte) : EncodedLength.Statement (.cmpZp b) :=
  ⟨rfl, show (opcodeEntry 0xC5#8).len = 2 from rfl, rfl⟩
theorem EncodedLength.cmpZpx (b : Byte) : EncodedLength.Statement (.cmpZpx b) :=
  ⟨rfl, show (opcodeEntry 0xD5#8).len = 2 from rfl, rfl⟩
theorem EncodedLength.cmpAbs (w : Addr) : EncodedLength.Statement (.cmpAbs w) :=
  ⟨rfl, show (opcodeEntry 0xCD#8).len = 3 from rfl, rfl⟩
theorem EncodedLength.cmpAbx (w : Addr) : EncodedLength.Statement (.cmpAbx w) :=
  ⟨rfl, show (opcodeEntry 0xDD#8).len = 3 from rfl, rfl⟩
theorem EncodedLength.cmpAby (w : Addr) : EncodedLength.Statement (.cmpAby w) :=
  ⟨rfl, show (opcodeEntry 0xD9#8).len = 3 from rfl, rfl⟩
theorem EncodedLength.cmpIzx (b : Byte) : EncodedLength.Statement (.cmpIzx b) :=
  ⟨rfl, show (opcodeEntry 0xC1#8).len = 2 from rfl, rfl⟩
theorem EncodedLength.cmpIzy (b : Byte) : EncodedLength.Statement (.cmpIzy b) :=
  ⟨rfl, show (opcodeEntry 0xD1#8).len = 2 from rfl, rfl⟩
theorem EncodedLength.cmpIzp (b : Byte) : EncodedLength.Statement (.cmpIzp b) :=
  ⟨rfl, show (opcodeEntry 0xD2#8).len = 2 from rfl, rfl⟩
theorem EncodedLength.cpxImm (b : Byte) : EncodedLength.Statement (.cpxImm b) :=
  ⟨rfl, show (opcodeEntry 0xE0#8).len = 2 from rfl, rfl⟩
theorem EncodedLength.cpxZp (b : Byte) : EncodedLength.Statement (.cpxZp b) :=
  ⟨rfl, show (opcodeEntry 0xE4#8).len = 2 from rfl, rfl⟩
theorem EncodedLength.cpxAbs (w : Addr) : EncodedLength.Statement (.cpxAbs w) :=
  ⟨rfl, show (opcodeEntry 0xEC#8).len = 3 from rfl, rfl⟩
theorem EncodedLength.cpyImm (b : Byte) : EncodedLength.Statement (.cpyImm b) :=
  ⟨rfl, show (opcodeEntry 0xC0#8).len = 2 from rfl, rfl⟩
theorem EncodedLength.cpyZp (b : Byte) : EncodedLength.Statement (.cpyZp b) :=
  ⟨rfl, show (opcodeEntry 0xC4#8).len = 2 from rfl, rfl⟩
theorem EncodedLength.cpyAbs (w : Addr) : EncodedLength.Statement (.cpyAbs w) :=
  ⟨rfl, show (opcodeEntry 0xCC#8).len = 3 from rfl, rfl⟩
theorem EncodedLength.incAcc : EncodedLength.Statement (.incAcc) :=
  ⟨rfl, show (opcodeEntry 0x1A#8).len = 1 from rfl, rfl⟩
theorem EncodedLength.incZp (b : Byte) : EncodedLength.Statement (.incZp b) :=
  ⟨rfl, show (opcodeEntry 0xE6#8).len = 2 from rfl, rfl⟩
theorem EncodedLength.incZpx (b : Byte) : EncodedLength.Statement (.incZpx b) :=
  ⟨rfl, show (opcodeEntry 0xF6#8).len = 2 from rfl, rfl⟩
theorem EncodedLength.incAbs (w : Addr) : EncodedLength.Statement (.incAbs w) :=
  ⟨rfl, show (opcodeEntry 0xEE#8).len = 3 from rfl, rfl⟩
theorem EncodedLength.incAbx (w : Addr) : EncodedLength.Statement (.incAbx w) :=
  ⟨rfl, show (opcodeEntry 0xFE#8).len = 3 from rfl, rfl⟩
theorem EncodedLength.decAcc : EncodedLength.Statement (.decAcc) :=
  ⟨rfl, show (opcodeEntry 0x3A#8).len = 1 from rfl, rfl⟩
theorem EncodedLength.decZp (b : Byte) : EncodedLength.Statement (.decZp b) :=
  ⟨rfl, show (opcodeEntry 0xC6#8).len = 2 from rfl, rfl⟩
theorem EncodedLength.decZpx (b : Byte) : EncodedLength.Statement (.decZpx b) :=
  ⟨rfl, show (opcodeEntry 0xD6#8).len = 2 from rfl, rfl⟩
theorem EncodedLength.decAbs (w : Addr) : EncodedLength.Statement (.decAbs w) :=
  ⟨rfl, show (opcodeEntry 0xCE#8).len = 3 from rfl, rfl⟩
theorem EncodedLength.decAbx (w : Addr) : EncodedLength.Statement (.decAbx w) :=
  ⟨rfl, show (opcodeEntry 0xDE#8).len = 3 from rfl, rfl⟩
theorem EncodedLength.inx : EncodedLength.Statement (.inx) :=
  ⟨rfl, show (opcodeEntry 0xE8#8).len = 1 from rfl, rfl⟩
theorem EncodedLength.iny : EncodedLength.Statement (.iny) :=
  ⟨rfl, show (opcodeEntry 0xC8#8).len = 1 from rfl, rfl⟩
theorem EncodedLength.dex : EncodedLength.Statement (.dex) :=
  ⟨rfl, show (opcodeEntry 0xCA#8).len = 1 from rfl, rfl⟩
theorem EncodedLength.dey : EncodedLength.Statement (.dey) :=
  ⟨rfl, show (opcodeEntry 0x88#8).len = 1 from rfl, rfl⟩
theorem EncodedLength.andImm (b : Byte) : EncodedLength.Statement (.andImm b) :=
  ⟨rfl, show (opcodeEntry 0x29#8).len = 2 from rfl, rfl⟩
theorem EncodedLength.andZp (b : Byte) : EncodedLength.Statement (.andZp b) :=
  ⟨rfl, show (opcodeEntry 0x25#8).len = 2 from rfl, rfl⟩
theorem EncodedLength.andZpx (b : Byte) : EncodedLength.Statement (.andZpx b) :=
  ⟨rfl, show (opcodeEntry 0x35#8).len = 2 from rfl, rfl⟩
theorem EncodedLength.andAbs (w : Addr) : EncodedLength.Statement (.andAbs w) :=
  ⟨rfl, show (opcodeEntry 0x2D#8).len = 3 from rfl, rfl⟩
theorem EncodedLength.andAbx (w : Addr) : EncodedLength.Statement (.andAbx w) :=
  ⟨rfl, show (opcodeEntry 0x3D#8).len = 3 from rfl, rfl⟩
theorem EncodedLength.andAby (w : Addr) : EncodedLength.Statement (.andAby w) :=
  ⟨rfl, show (opcodeEntry 0x39#8).len = 3 from rfl, rfl⟩
theorem EncodedLength.andIzx (b : Byte) : EncodedLength.Statement (.andIzx b) :=
  ⟨rfl, show (opcodeEntry 0x21#8).len = 2 from rfl, rfl⟩
theorem EncodedLength.andIzy (b : Byte) : EncodedLength.Statement (.andIzy b) :=
  ⟨rfl, show (opcodeEntry 0x31#8).len = 2 from rfl, rfl⟩
theorem EncodedLength.andIzp (b : Byte) : EncodedLength.Statement (.andIzp b) :=
  ⟨rfl, show (opcodeEntry 0x32#8).len = 2 from rfl, rfl⟩
theorem EncodedLength.oraImm (b : Byte) : EncodedLength.Statement (.oraImm b) :=
  ⟨rfl, show (opcodeEntry 0x09#8).len = 2 from rfl, rfl⟩
theorem EncodedLength.oraZp (b : Byte) : EncodedLength.Statement (.oraZp b) :=
  ⟨rfl, show (opcodeEntry 0x05#8).len = 2 from rfl, rfl⟩
theorem EncodedLength.oraZpx (b : Byte) : EncodedLength.Statement (.oraZpx b) :=
  ⟨rfl, show (opcodeEntry 0x15#8).len = 2 from rfl, rfl⟩
theorem EncodedLength.oraAbs (w : Addr) : EncodedLength.Statement (.oraAbs w) :=
  ⟨rfl, show (opcodeEntry 0x0D#8).len = 3 from rfl, rfl⟩
theorem EncodedLength.oraAbx (w : Addr) : EncodedLength.Statement (.oraAbx w) :=
  ⟨rfl, show (opcodeEntry 0x1D#8).len = 3 from rfl, rfl⟩
theorem EncodedLength.oraAby (w : Addr) : EncodedLength.Statement (.oraAby w) :=
  ⟨rfl, show (opcodeEntry 0x19#8).len = 3 from rfl, rfl⟩
theorem EncodedLength.oraIzx (b : Byte) : EncodedLength.Statement (.oraIzx b) :=
  ⟨rfl, show (opcodeEntry 0x01#8).len = 2 from rfl, rfl⟩
theorem EncodedLength.oraIzy (b : Byte) : EncodedLength.Statement (.oraIzy b) :=
  ⟨rfl, show (opcodeEntry 0x11#8).len = 2 from rfl, rfl⟩
theorem EncodedLength.oraIzp (b : Byte) : EncodedLength.Statement (.oraIzp b) :=
  ⟨rfl, show (opcodeEntry 0x12#8).len = 2 from rfl, rfl⟩
theorem EncodedLength.eorImm (b : Byte) : EncodedLength.Statement (.eorImm b) :=
  ⟨rfl, show (opcodeEntry 0x49#8).len = 2 from rfl, rfl⟩
theorem EncodedLength.eorZp (b : Byte) : EncodedLength.Statement (.eorZp b) :=
  ⟨rfl, show (opcodeEntry 0x45#8).len = 2 from rfl, rfl⟩
theorem EncodedLength.eorZpx (b : Byte) : EncodedLength.Statement (.eorZpx b) :=
  ⟨rfl, show (opcodeEntry 0x55#8).len = 2 from rfl, rfl⟩
theorem EncodedLength.eorAbs (w : Addr) : EncodedLength.Statement (.eorAbs w) :=
  ⟨rfl, show (opcodeEntry 0x4D#8).len = 3 from rfl, rfl⟩
theorem EncodedLength.eorAbx (w : Addr) : EncodedLength.Statement (.eorAbx w) :=
  ⟨rfl, show (opcodeEntry 0x5D#8).len = 3 from rfl, rfl⟩
theorem EncodedLength.eorAby (w : Addr) : EncodedLength.Statement (.eorAby w) :=
  ⟨rfl, show (opcodeEntry 0x59#8).len = 3 from rfl, rfl⟩
theorem EncodedLength.eorIzx (b : Byte) : EncodedLength.Statement (.eorIzx b) :=
  ⟨rfl, show (opcodeEntry 0x41#8).len = 2 from rfl, rfl⟩
theorem EncodedLength.eorIzy (b : Byte) : EncodedLength.Statement (.eorIzy b) :=
  ⟨rfl, show (opcodeEntry 0x51#8).len = 2 from rfl, rfl⟩
theorem EncodedLength.eorIzp (b : Byte) : EncodedLength.Statement (.eorIzp b) :=
  ⟨rfl, show (opcodeEntry 0x52#8).len = 2 from rfl, rfl⟩
theorem EncodedLength.bitZp (b : Byte) : EncodedLength.Statement (.bitZp b) :=
  ⟨rfl, show (opcodeEntry 0x24#8).len = 2 from rfl, rfl⟩
theorem EncodedLength.bitAbs (w : Addr) : EncodedLength.Statement (.bitAbs w) :=
  ⟨rfl, show (opcodeEntry 0x2C#8).len = 3 from rfl, rfl⟩
theorem EncodedLength.trbZp (b : Byte) : EncodedLength.Statement (.trbZp b) :=
  ⟨rfl, show (opcodeEntry 0x14#8).len = 2 from rfl, rfl⟩
theorem EncodedLength.trbAbs (w : Addr) : EncodedLength.Statement (.trbAbs w) :=
  ⟨rfl, show (opcodeEntry 0x1C#8).len = 3 from rfl, rfl⟩
theorem EncodedLength.tsbZp (b : Byte) : EncodedLength.Statement (.tsbZp b) :=
  ⟨rfl, show (opcodeEntry 0x04#8).len = 2 from rfl, rfl⟩
theorem EncodedLength.tsbAbs (w : Addr) : EncodedLength.Statement (.tsbAbs w) :=
  ⟨rfl, show (opcodeEntry 0x0C#8).len = 3 from rfl, rfl⟩
theorem EncodedLength.aslAcc : EncodedLength.Statement (.aslAcc) :=
  ⟨rfl, show (opcodeEntry 0x0A#8).len = 1 from rfl, rfl⟩
theorem EncodedLength.aslZp (b : Byte) : EncodedLength.Statement (.aslZp b) :=
  ⟨rfl, show (opcodeEntry 0x06#8).len = 2 from rfl, rfl⟩
theorem EncodedLength.aslZpx (b : Byte) : EncodedLength.Statement (.aslZpx b) :=
  ⟨rfl, show (opcodeEntry 0x16#8).len = 2 from rfl, rfl⟩
theorem EncodedLength.aslAbs (w : Addr) : EncodedLength.Statement (.aslAbs w) :=
  ⟨rfl, show (opcodeEntry 0x0E#8).len = 3 from rfl, rfl⟩
theorem EncodedLength.aslAbx (w : Addr) : EncodedLength.Statement (.aslAbx w) :=
  ⟨rfl, show (opcodeEntry 0x1E#8).len = 3 from rfl, rfl⟩
theorem EncodedLength.lsrAcc : EncodedLength.Statement (.lsrAcc) :=
  ⟨rfl, show (opcodeEntry 0x4A#8).len = 1 from rfl, rfl⟩
theorem EncodedLength.lsrZp (b : Byte) : EncodedLength.Statement (.lsrZp b) :=
  ⟨rfl, show (opcodeEntry 0x46#8).len = 2 from rfl, rfl⟩
theorem EncodedLength.lsrZpx (b : Byte) : EncodedLength.Statement (.lsrZpx b) :=
  ⟨rfl, show (opcodeEntry 0x56#8).len = 2 from rfl, rfl⟩
theorem EncodedLength.lsrAbs (w : Addr) : EncodedLength.Statement (.lsrAbs w) :=
  ⟨rfl, show (opcodeEntry 0x4E#8).len = 3 from rfl, rfl⟩
theorem EncodedLength.lsrAbx (w : Addr) : EncodedLength.Statement (.lsrAbx w) :=
  ⟨rfl, show (opcodeEntry 0x5E#8).len = 3 from rfl, rfl⟩
theorem EncodedLength.rolAcc : EncodedLength.Statement (.rolAcc) :=
  ⟨rfl, show (opcodeEntry 0x2A#8).len = 1 from rfl, rfl⟩
theorem EncodedLength.rolZp (b : Byte) : EncodedLength.Statement (.rolZp b) :=
  ⟨rfl, show (opcodeEntry 0x26#8).len = 2 from rfl, rfl⟩
theorem EncodedLength.rolZpx (b : Byte) : EncodedLength.Statement (.rolZpx b) :=
  ⟨rfl, show (opcodeEntry 0x36#8).len = 2 from rfl, rfl⟩
theorem EncodedLength.rolAbs (w : Addr) : EncodedLength.Statement (.rolAbs w) :=
  ⟨rfl, show (opcodeEntry 0x2E#8).len = 3 from rfl, rfl⟩
theorem EncodedLength.rolAbx (w : Addr) : EncodedLength.Statement (.rolAbx w) :=
  ⟨rfl, show (opcodeEntry 0x3E#8).len = 3 from rfl, rfl⟩
theorem EncodedLength.rorAcc : EncodedLength.Statement (.rorAcc) :=
  ⟨rfl, show (opcodeEntry 0x6A#8).len = 1 from rfl, rfl⟩
theorem EncodedLength.rorZp (b : Byte) : EncodedLength.Statement (.rorZp b) :=
  ⟨rfl, show (opcodeEntry 0x66#8).len = 2 from rfl, rfl⟩
theorem EncodedLength.rorZpx (b : Byte) : EncodedLength.Statement (.rorZpx b) :=
  ⟨rfl, show (opcodeEntry 0x76#8).len = 2 from rfl, rfl⟩
theorem EncodedLength.rorAbs (w : Addr) : EncodedLength.Statement (.rorAbs w) :=
  ⟨rfl, show (opcodeEntry 0x6E#8).len = 3 from rfl, rfl⟩
theorem EncodedLength.rorAbx (w : Addr) : EncodedLength.Statement (.rorAbx w) :=
  ⟨rfl, show (opcodeEntry 0x7E#8).len = 3 from rfl, rfl⟩
theorem EncodedLength.bpl (d : Byte) : EncodedLength.Statement (.bpl d) :=
  ⟨rfl, show (opcodeEntry 0x10#8).len = 2 from rfl, rfl⟩
theorem EncodedLength.bmi (d : Byte) : EncodedLength.Statement (.bmi d) :=
  ⟨rfl, show (opcodeEntry 0x30#8).len = 2 from rfl, rfl⟩
theorem EncodedLength.bvc (d : Byte) : EncodedLength.Statement (.bvc d) :=
  ⟨rfl, show (opcodeEntry 0x50#8).len = 2 from rfl, rfl⟩
theorem EncodedLength.bvs (d : Byte) : EncodedLength.Statement (.bvs d) :=
  ⟨rfl, show (opcodeEntry 0x70#8).len = 2 from rfl, rfl⟩
theorem EncodedLength.bcc (d : Byte) : EncodedLength.Statement (.bcc d) :=
  ⟨rfl, show (opcodeEntry 0x90#8).len = 2 from rfl, rfl⟩
theorem EncodedLength.bcs (d : Byte) : EncodedLength.Statement (.bcs d) :=
  ⟨rfl, show (opcodeEntry 0xB0#8).len = 2 from rfl, rfl⟩
theorem EncodedLength.bne (d : Byte) : EncodedLength.Statement (.bne d) :=
  ⟨rfl, show (opcodeEntry 0xD0#8).len = 2 from rfl, rfl⟩
theorem EncodedLength.beq (d : Byte) : EncodedLength.Statement (.beq d) :=
  ⟨rfl, show (opcodeEntry 0xF0#8).len = 2 from rfl, rfl⟩
theorem EncodedLength.bra (d : Byte) : EncodedLength.Statement (.bra d) :=
  ⟨rfl, show (opcodeEntry 0x80#8).len = 2 from rfl, rfl⟩
theorem EncodedLength.jmpAbs (w : Addr) : EncodedLength.Statement (.jmpAbs w) :=
  ⟨rfl, show (opcodeEntry 0x4C#8).len = 3 from rfl, rfl⟩
theorem EncodedLength.jmpInd (w : Addr) : EncodedLength.Statement (.jmpInd w) :=
  ⟨rfl, show (opcodeEntry 0x6C#8).len = 3 from rfl, rfl⟩
theorem EncodedLength.jmpIax (w : Addr) : EncodedLength.Statement (.jmpIax w) :=
  ⟨rfl, show (opcodeEntry 0x7C#8).len = 3 from rfl, rfl⟩
theorem EncodedLength.jsr (w : Addr) : EncodedLength.Statement (.jsr w) :=
  ⟨rfl, show (opcodeEntry 0x20#8).len = 3 from rfl, rfl⟩
theorem EncodedLength.rts : EncodedLength.Statement (.rts) :=
  ⟨rfl, show (opcodeEntry 0x60#8).len = 1 from rfl, rfl⟩
theorem EncodedLength.pha : EncodedLength.Statement (.pha) :=
  ⟨rfl, show (opcodeEntry 0x48#8).len = 1 from rfl, rfl⟩
theorem EncodedLength.pla : EncodedLength.Statement (.pla) :=
  ⟨rfl, show (opcodeEntry 0x68#8).len = 1 from rfl, rfl⟩
theorem EncodedLength.phx : EncodedLength.Statement (.phx) :=
  ⟨rfl, show (opcodeEntry 0xDA#8).len = 1 from rfl, rfl⟩
theorem EncodedLength.plx : EncodedLength.Statement (.plx) :=
  ⟨rfl, show (opcodeEntry 0xFA#8).len = 1 from rfl, rfl⟩
theorem EncodedLength.phy : EncodedLength.Statement (.phy) :=
  ⟨rfl, show (opcodeEntry 0x5A#8).len = 1 from rfl, rfl⟩
theorem EncodedLength.ply : EncodedLength.Statement (.ply) :=
  ⟨rfl, show (opcodeEntry 0x7A#8).len = 1 from rfl, rfl⟩
theorem EncodedLength.php : EncodedLength.Statement (.php) :=
  ⟨rfl, show (opcodeEntry 0x08#8).len = 1 from rfl, rfl⟩
theorem EncodedLength.plp : EncodedLength.Statement (.plp) :=
  ⟨rfl, show (opcodeEntry 0x28#8).len = 1 from rfl, rfl⟩
theorem EncodedLength.clc : EncodedLength.Statement (.clc) :=
  ⟨rfl, show (opcodeEntry 0x18#8).len = 1 from rfl, rfl⟩
theorem EncodedLength.sec : EncodedLength.Statement (.sec) :=
  ⟨rfl, show (opcodeEntry 0x38#8).len = 1 from rfl, rfl⟩
theorem EncodedLength.cli : EncodedLength.Statement (.cli) :=
  ⟨rfl, show (opcodeEntry 0x58#8).len = 1 from rfl, rfl⟩
theorem EncodedLength.sei : EncodedLength.Statement (.sei) :=
  ⟨rfl, show (opcodeEntry 0x78#8).len = 1 from rfl, rfl⟩
theorem EncodedLength.cld : EncodedLength.Statement (.cld) :=
  ⟨rfl, show (opcodeEntry 0xD8#8).len = 1 from rfl, rfl⟩
theorem EncodedLength.sed : EncodedLength.Statement (.sed) :=
  ⟨rfl, show (opcodeEntry 0xF8#8).len = 1 from rfl, rfl⟩
theorem EncodedLength.clv : EncodedLength.Statement (.clv) :=
  ⟨rfl, show (opcodeEntry 0xB8#8).len = 1 from rfl, rfl⟩
theorem EncodedLength.nop : EncodedLength.Statement (.nop) :=
  ⟨rfl, show (opcodeEntry 0xEA#8).len = 1 from rfl, rfl⟩
theorem EncodedLength.brk : EncodedLength.Statement (.brk) :=
  ⟨rfl, show (opcodeEntry 0x00#8).len = 1 from rfl, rfl⟩
theorem EncodedLength.rti : EncodedLength.Statement (.rti) :=
  ⟨rfl, show (opcodeEntry 0x40#8).len = 1 from rfl, rfl⟩
theorem EncodedLength.undef02 : EncodedLength.Statement (.undef02) :=
  ⟨rfl, show (opcodeEntry 0x02#8).len = 1 from rfl, rfl⟩
theorem EncodedLength.undef03 : EncodedLength.Statement (.undef03) :=
  ⟨rfl, show (opcodeEntry 0x03#8).len = 1 from rfl, rfl⟩
theorem EncodedLength.undef07 : EncodedLength.Statement (.undef07) :=
  ⟨rfl, show (opcodeEntry 0x07#8).len = 1 from rfl, rfl⟩
theorem EncodedLength.undef0B : EncodedLength.Statement (.undef0B) :=
  ⟨rfl, show (opcodeEntry 0x0B#8).len = 1 from rfl, rfl⟩
theorem EncodedLength.undef0F : EncodedLength.Statement (.undef0F) :=
  ⟨rfl, show (opcodeEntry 0x0F#8).len = 1 from rfl, rfl⟩
theorem EncodedLength.undef13 : EncodedLength.Statement (.undef13) :=
  ⟨rfl, show (opcodeEntry 0x13#8).len = 1 from rfl, rfl⟩
theorem EncodedLength.undef17 : EncodedLength.Statement (.undef17) :=
  ⟨rfl, show (opcodeEntry 0x17#8).len = 1 from rfl, rfl⟩
theorem EncodedLength.undef1B : EncodedLength.Statement (.undef1B) :=
  ⟨rfl, show (opcodeEntry 0x1B#8).len = 1 from rfl, rfl⟩
theorem EncodedLength.undef1F : EncodedLength.Statement (.undef1F) :=
  ⟨rfl, show (opcodeEntry 0x1F#8).len = 1 from rfl, rfl⟩
theorem EncodedLength.undef22 : EncodedLength.Statement (.undef22) :=
  ⟨rfl, show (opcodeEntry 0x22#8).len = 1 from rfl, rfl⟩
theorem EncodedLength.undef23 : EncodedLength.Statement (.undef23) :=
  ⟨rfl, show (opcodeEntry 0x23#8).len = 1 from rfl, rfl⟩
theorem EncodedLength.undef27 : EncodedLength.Statement (.undef27) :=
  ⟨rfl, show (opcodeEntry 0x27#8).len = 1 from rfl, rfl⟩
theorem EncodedLength.undef2B : EncodedLength.Statement (.undef2B) :=
  ⟨rfl, show (opcodeEntry 0x2B#8).len = 1 from rfl, rfl⟩
theorem EncodedLength.undef2F : EncodedLength.Statement (.undef2F) :=
  ⟨rfl, show (opcodeEntry 0x2F#8).len = 1 from rfl, rfl⟩
theorem EncodedLength.undef33 : EncodedLength.Statement (.undef33) :=
  ⟨rfl, show (opcodeEntry 0x33#8).len = 1 from rfl, rfl⟩
theorem EncodedLength.undef34 : EncodedLength.Statement (.undef34) :=
  ⟨rfl, show (opcodeEntry 0x34#8).len = 1 from rfl, rfl⟩
theorem EncodedLength.undef37 : EncodedLength.Statement (.undef37) :=
  ⟨rfl, show (opcodeEntry 0x37#8).len = 1 from rfl, rfl⟩
theorem EncodedLength.undef3B : EncodedLength.Statement (.undef3B) :=
  ⟨rfl, show (opcodeEntry 0x3B#8).len = 1 from rfl, rfl⟩
theorem EncodedLength.undef3C : EncodedLength.Statement (.undef3C) :=
  ⟨rfl, show (opcodeEntry 0x3C#8).len = 1 from rfl, rfl⟩
theorem EncodedLength.undef3F : EncodedLength.Statement (.undef3F) :=
  ⟨rfl, show (opcodeEntry 0x3F#8).len = 1 from rfl, rfl⟩
theorem EncodedLength.undef42 : EncodedLength.Statement (.undef42) :=
  ⟨rfl, show (opcodeEntry 0x42#8).len = 1 from rfl, rfl⟩
theorem EncodedLength.undef43 : EncodedLength.Statement (.undef43) :=
  ⟨rfl, show (opcodeEntry 0x43#8).len = 1 from rfl, rfl⟩
theorem EncodedLength.undef44 : EncodedLength.Statement (.undef44) :=
  ⟨rfl, show (opcodeEntry 0x44#8).len = 1 from rfl, rfl⟩
theorem EncodedLength.undef47 : EncodedLength.Statement (.undef47) :=
  ⟨rfl, show (opcodeEntry 0x47#8).len = 1 from rfl, rfl⟩
theorem EncodedLength.undef4B : EncodedLength.Statement (.undef4B) :=
  ⟨rfl, show (opcodeEntry 0x4B#8).len = 1 from rfl, rfl⟩
theorem EncodedLength.undef4F : EncodedLength.Statement (.undef4F) :=
  ⟨rfl, show (opcodeEntry 0x4F#8).len = 1 from rfl, rfl⟩
theorem EncodedLength.undef53 : EncodedLength.Statement (.undef53) :=
  ⟨rfl, show (opcodeEntry 0x53#8).len = 1 from rfl, rfl⟩
theorem EncodedLength.undef54 : EncodedLength.Statement (.undef54) :=
  ⟨rfl, show (opcodeEntry 0x54#8).len = 1 from rfl, rfl⟩
theorem EncodedLength.undef57 : EncodedLength.Statement (.undef57) :=
  ⟨rfl, show (opcodeEntry 0x57#8).len = 1 from rfl, rfl⟩
theorem EncodedLength.undef5B : EncodedLength.Statement (.undef5B) :=
  ⟨rfl, show (opcodeEntry 0x5B#8).len = 1 from rfl, rfl⟩
theorem EncodedLength.undef5C : EncodedLength.Statement (.undef5C) :=
  ⟨rfl, show (opcodeEntry 0x5C#8).len = 1 from rfl, rfl⟩
theorem EncodedLength.undef5F : EncodedLength.Statement (.undef5F) :=
  ⟨rfl, show (opcodeEntry 0x5F#8).len = 1 from rfl, rfl⟩
theorem EncodedLength.undef62 : EncodedLength.Statement (.undef62) :=
  ⟨rfl, show (opcodeEntry 0x62#8).len = 1 from rfl, rfl⟩
theorem EncodedLength.undef63 : EncodedLength.Statement (.undef63) :=
  ⟨rfl, show (opcodeEntry 0x63#8).len = 1 from rfl, rfl⟩
theorem EncodedLength.undef67 : EncodedLength.Statement (.undef67) :=
  ⟨rfl, show (opcodeEntry 0x67#8).len = 1 from rfl, rfl⟩
theorem EncodedLength.undef6B : EncodedLength.Statement (.undef6B) :=
  ⟨rfl, show (opcodeEntry 0x6B#8).len = 1 from rfl, rfl⟩
theorem EncodedLength.undef6F : EncodedLength.Statement (.undef6F) :=
  ⟨rfl, show (opcodeEntry 0x6F#8).len = 1 from rfl, rfl⟩
theorem EncodedLength.undef73 : EncodedLength.Statement (.undef73) :=
  ⟨rfl, show (opcodeEntry 0x73#8).len = 1 from rfl, rfl⟩
theorem EncodedLength.undef77 : EncodedLength.Statement (.undef77) :=
  ⟨rfl, show (opcodeEntry 0x77#8).len = 1 from rfl, rfl⟩
theorem EncodedLength.undef7B : EncodedLength.Statement (.undef7B) :=
  ⟨rfl, show (opcodeEntry 0x7B#8).len = 1 from rfl, rfl⟩
theorem EncodedLength.undef7F : EncodedLength.Statement (.undef7F) :=
  ⟨rfl, show (opcodeEntry 0x7F#8).len = 1 from rfl, rfl⟩
theorem EncodedLength.undef82 : EncodedLength.Statement (.undef82) :=
  ⟨rfl, show (opcodeEntry 0x82#8).len = 1 from rfl, rfl⟩
theorem EncodedLength.undef83 : EncodedLength.Statement (.undef83) :=
  ⟨rfl, show (opcodeEntry 0x83#8).len = 1 from rfl, rfl⟩
theorem EncodedLength.undef87 : EncodedLength.Statement (.undef87) :=
  ⟨rfl, show (opcodeEntry 0x87#8).len = 1 from rfl, rfl⟩
theorem EncodedLength.undef89 : EncodedLength.Statement (.undef89) :=
  ⟨rfl, show (opcodeEntry 0x89#8).len = 1 from rfl, rfl⟩
theorem EncodedLength.undef8B : EncodedLength.Statement (.undef8B) :=
  ⟨rfl, show (opcodeEntry 0x8B#8).len = 1 from rfl, rfl⟩
theorem EncodedLength.undef8F : EncodedLength.Statement (.undef8F) :=
  ⟨rfl, show (opcodeEntry 0x8F#8).len = 1 from rfl, rfl⟩
theorem EncodedLength.undef93 : EncodedLength.Statement (.undef93) :=
  ⟨rfl, show (opcodeEntry 0x93#8).len = 1 from rfl, rfl⟩
theorem EncodedLength.undef97 : EncodedLength.Statement (.undef97) :=
  ⟨rfl, show (opcodeEntry 0x97#8).len = 1 from rfl, rfl⟩
theorem EncodedLength.undef9B : EncodedLength.Statement (.undef9B) :=
  ⟨rfl, show (opcodeEntry 0x9B#8).len = 1 from rfl, rfl⟩
theorem EncodedLength.undef9F : EncodedLength.Statement (.undef9F) :=
  ⟨rfl, show (opcodeEntry 0x9F#8).len = 1 from rfl, rfl⟩
theorem EncodedLength.undefA3 : EncodedLength.Statement (.undefA3) :=
  ⟨rfl, show (opcodeEntry 0xA3#8).len = 1 from rfl, rfl⟩
theorem EncodedLength.undefA7 : EncodedLength.Statement (.undefA7) :=
  ⟨rfl, show (opcodeEntry 0xA7#8).len = 1 from rfl, rfl⟩
theorem EncodedLength.undefAB : EncodedLength.Statement (.undefAB) :=
  ⟨rfl, show (opcodeEntry 0xAB#8).len = 1 from rfl, rfl⟩
theorem EncodedLength.undefAF : EncodedLength.Statement (.undefAF) :=
  ⟨rfl, show (opcodeEntry 0xAF#8).len = 1 from rfl, rfl⟩
theorem EncodedLength.undefB3 : EncodedLength.Statement (.undefB3) :=
  ⟨rfl, show (opcodeEntry 0xB3#8).len = 1 from rfl, rfl⟩
theorem EncodedLength.undefB7 : EncodedLength.Statement (.undefB7) :=
  ⟨rfl, show (opcodeEntry 0xB7#8).len = 1 from rfl, rfl⟩
theorem EncodedLength.undefBB : EncodedLength.Statement (.undefBB) :=
  ⟨rfl, show (opcodeEntry 0xBB#8).len = 1 from rfl, rfl⟩
theorem EncodedLength.undefBF : EncodedLength.Statement (.undefBF) :=
  ⟨rfl, show (opcodeEntry 0xBF#8).len = 1 from rfl, rfl⟩
theorem EncodedLength.undefC2 : EncodedLength.Statement (.undefC2) :=
  ⟨rfl, show (opcodeEntry 0xC2#8).len = 1 from rfl, rfl⟩
theorem EncodedLength.undefC3 : EncodedLength.Statement (.undefC3) :=
  ⟨rfl, show (opcodeEntry 0xC3#8).len = 1 from rfl, rfl⟩
theorem EncodedLength.undefC7 : EncodedLength.Statement (.undefC7) :=
  ⟨rfl, show (opcodeEntry 0xC7#8).len = 1 from rfl, rfl⟩
theorem EncodedLength.undefCB : EncodedLength.Statement (.undefCB) :=
  ⟨rfl, show (opcodeEntry 0xCB#8).len = 1 from rfl, rfl⟩
theorem EncodedLength.undefCF : EncodedLength.Statement (.undefCF) :=
  ⟨rfl, show (opcodeEntry 0xCF#8).len = 1 from rfl, rfl⟩
theorem EncodedLength.undefD3 : EncodedLength.Statement (.undefD3) :=
  ⟨rfl, show (opcodeEntry 0xD3#8).len = 1 from rfl, rfl⟩
theorem EncodedLength.undefD4 : EncodedLength.Statement (.undefD4) :=
  ⟨rfl, show (opcodeEntry 0xD4#8).len = 1 from rfl, rfl⟩
theorem EncodedLength.undefD7 : EncodedLength.Statement (.undefD7) :=
  ⟨rfl, show (opcodeEntry 0xD7#8).len = 1 from rfl, rfl⟩
theorem EncodedLength.undefDB : EncodedLength.Statement (.undefDB) :=
  ⟨rfl, show (opcodeEntry 0xDB#8).len = 1 from rfl, rfl⟩
theorem EncodedLength.undefDC : EncodedLength.Statement (.undefDC) :=
  ⟨rfl, show (opcodeEntry 0xDC#8).len = 1 from rfl, rfl⟩
theorem EncodedLength.undefDF : EncodedLength.Statement (.undefDF) :=
  ⟨rfl, show (opcodeEntry 0xDF#8).len = 1 from rfl, rfl⟩
theorem EncodedLength.undefE2 : EncodedLength.Statement (.undefE2) :=
  ⟨rfl, show (opcodeEntry 0xE2#8).len = 1 from rfl, rfl⟩
theorem EncodedLength.undefE3 : EncodedLength.Statement (.undefE3) :=
  ⟨rfl, show (opcodeEntry 0xE3#8).len = 1 from rfl, rfl⟩
theorem EncodedLength.undefE7 : EncodedLength.Statement (.undefE7) :=
  ⟨rfl, show (opcodeEntry 0xE7#8).len = 1 from rfl, rfl⟩
theorem EncodedLength.undefEB : EncodedLength.Statement (.undefEB) :=
  ⟨rfl, show (opcodeEntry 0xEB#8).len = 1 from rfl, rfl⟩
theorem EncodedLength.undefEF : EncodedLength.Statement (.undefEF) :=
  ⟨rfl, show (opcodeEntry 0xEF#8).len = 1 from rfl, rfl⟩
theorem EncodedLength.undefF3 : EncodedLength.Statement (.undefF3) :=
  ⟨rfl, show (opcodeEntry 0xF3#8).len = 1 from rfl, rfl⟩
theorem EncodedLength.undefF4 : EncodedLength.Statement (.undefF4) :=
  ⟨rfl, show (opcodeEntry 0xF4#8).len = 1 from rfl, rfl⟩
theorem EncodedLength.undefF7 : EncodedLength.Statement (.undefF7) :=
  ⟨rfl, show (opcodeEntry 0xF7#8).len = 1 from rfl, rfl⟩
theorem EncodedLength.undefFB : EncodedLength.Statement (.undefFB) :=
  ⟨rfl, show (opcodeEntry 0xFB#8).len = 1 from rfl, rfl⟩
theorem EncodedLength.undefFC : EncodedLength.Statement (.undefFC) :=
  ⟨rfl, show (opcodeEntry 0xFC#8).len = 1 from rfl, rfl⟩
theorem EncodedLength.undefFF : EncodedLength.Statement (.undefFF) :=
  ⟨rfl, show (opcodeEntry 0xFF#8).len = 1 from rfl, rfl⟩

end Sys2Proof.Laws
end

