-- ==== Sys2Proof/Laws/Timer.lean ====
section
/-! SUPPORT. The timer instance: its counters, and each step of an update as one record equation. -/

namespace Sys2Proof.Machine

theorem Timer.counter1_lt (t : Timer) : t.counter1 < 65536 := BitVec.isLt _
theorem Timer.latch1_lt (t : Timer) : t.latch1 < 65536 := BitVec.isLt _
theorem Timer.counter2_lt (t : Timer) : t.counter2 < 65536 := BitVec.isLt _

theorem Timer.counter1_putCounter1 {n : Nat} (h : n < 65536) (t : Timer) : (t.putCounter1 n).counter1 = n := by
  show (addrOf (lowByte _) (highByte _)).toNat = n
  rw [addrOf_parts, BitVec.toNat_ofNat]
  omega

theorem Timer.counter2_putCounter2 {n : Nat} (h : n < 65536) (t : Timer) : (t.putCounter2 n).counter2 = n := by
  show (addrOf (lowByte _) (highByte _)).toNat = n
  rw [addrOf_parts, BitVec.toNat_ofNat]
  omega

/-- The reload loop, with enough fuel: a value in range of the same residue modulo the latch plus one. -/
theorem reloadCounter_spec (fuel : Nat) (c : Int) (l : Nat) (h : 0 ≤ c + fuel) (k : 0 ≤ c → c ≤ l) :
    0 ≤ reloadCounter fuel c l ∧ reloadCounter fuel c l ≤ l ∧ reloadCounter fuel c l % (l + 1) = c % (l + 1) := by
  induction fuel generalizing c with
  | zero =>
    have h0 : 0 ≤ c := by simpa using h
    exact ⟨h0, k h0, rfl⟩
  | succ n ih =>
    unfold reloadCounter
    split
    · obtain ⟨a, b, d⟩ := ih (c + (l + 1)) (by omega) (by omega)
      exact ⟨a, b, by rw [d]; simp⟩
    · exact ⟨by omega, k (by omega), rfl⟩

/-- Timer 1, continuous, before it passes below zero. -/
theorem timer1Next_running {c l e : Nat} (h : e ≤ c) : timer1Next true c l e = (c - e, false) := by
  simp only [timer1Next, if_true]
  rw [if_neg (by omega)]
  congr 1
  omega

/-- Timer 1, continuous, past zero: the counter in range, with the residue of the difference. -/
theorem timer1Next_reloads {c l e : Nat} (h : c < e) (hc : c < 65536) :
    ∃ n, timer1Next true c l e = (n, true) ∧ n ≤ l ∧ (n : Int) = ((c : Int) - e) % (l + 1) := by
  obtain ⟨a, b, d⟩ := reloadCounter_spec e ((c : Int) - e) l (by omega) (by omega)
  refine ⟨(reloadCounter e ((c : Int) - e) l).toNat, ?_, by omega, ?_⟩
  · simp only [timer1Next, if_true]
    rw [if_pos (by omega)]
  · rw [Int.toNat_of_nonneg a, ← d, Int.emod_eq_of_lt a (by omega)]

/-- Timer 1, one-shot. -/
theorem timer1Next_oneShot (c l e : Nat) : timer1Next false c l e = (c - e, decide (0 < c ∧ c ≤ e)) := by
  simp only [timer1Next, Bool.false_eq_true, if_false]
  by_cases h : c > 0
  · rw [if_pos h]
    congr 1
    rw [decide_eq_decide]
    omega
  · rw [if_neg h]
    have : c = 0 := by omega
    subst this
    simp

theorem Timer.outputLine_eq (t : Timer) : t.outputLine = { t with
    outLatchB := if t.acr.getLsbD 7 = true then
      (if t.acr.getLsbD 6 = true then t.outLatchB ^^^ 0x0080 else t.outLatchB ||| 0x0080) else t.outLatchB } := by
  unfold Timer.outputLine
  split
  · split <;> rfl
  · rfl

/-- The timer 1 steps of an update, as one record equation. -/
theorem Timer.updateTimer1_eq {e : Nat} {t : Timer} {n : Nat} {timeout : Bool}
    (h : timer1Next (t.acr.getLsbD 6) t.counter1 t.latch1 e = (n, timeout)) :
    t.updateTimer1 e = { t with
      t1cl := lowByte (BitVec.ofNat 16 n)
      t1ch := highByte (BitVec.ofNat 16 n)
      ifr := if timeout = true then t.ifr ||| 0x40 else t.ifr
      outLatchB := if timeout = true then t.outputLine.outLatchB else t.outLatchB } := by
  unfold Timer.updateTimer1
  dsimp only
  rw [h]
  cases timeout
  · rfl
  · rw [Timer.outputLine_eq]; rfl

/-- The timer 2 step touches its counter and IFR, and of IFR bit 5 alone. -/
theorem Timer.updateTimer2_eq (e : Nat) (t : Timer) : ∃ lo hi flags, t.updateTimer2 e = { t with t2cl := lo, t2ch := hi, ifr := flags } ∧
    ∀ k, k ≠ 5 → flags.getLsbD k = t.ifr.getLsbD k := by
  unfold Timer.updateTimer2
  dsimp only
  split
  · split
    · refine ⟨_, _, _, rfl, fun k hk => ?_⟩
      have : BitVec.getLsbD (0x20 : Byte) k = false := by
        by_cases h : k < 8
        · interval_cases k <;> first | rfl | contradiction
        · exact BitVec.getLsbD_of_ge _ _ (by omega)
      rw [BitVec.getLsbD_or, this, Bool.or_false]
    · exact ⟨_, _, _, rfl, fun _ _ => rfl⟩
  · exact ⟨_, _, _, rfl, fun _ _ => rfl⟩

/-- The summary step touches IFR bit 7 alone. -/
theorem Timer.update_eq (e : Nat) (t : Timer) : ∃ flags, (t.update e).2 = { (t.updateTimer1 e).updateTimer2 e with ifr := flags } ∧
    ∀ k, k ≠ 7 → flags.getLsbD k = ((t.updateTimer1 e).updateTimer2 e).ifr.getLsbD k := by
  unfold Timer.update
  dsimp only
  split
  · refine ⟨_, rfl, fun k hk => ?_⟩
    have : BitVec.getLsbD (0x80 : Byte) k = false := by
      by_cases h : k < 8
      · interval_cases k <;> first | rfl | contradiction
      · exact BitVec.getLsbD_of_ge _ _ (by omega)
    rw [BitVec.getLsbD_or, this, Bool.or_false]
  · refine ⟨_, rfl, fun k hk => ?_⟩
    rw [BitVec.getLsbD_and]
    by_cases h : k < 8
    · have : BitVec.getLsbD (0x7F : Byte) k = true := by interval_cases k <;> first | rfl | contradiction
      rw [this, Bool.and_true]
    · rw [BitVec.getLsbD_of_ge _ _ (by omega), Bool.false_and]

/-- The register of an address in a timer's region, by its offset. -/
theorem timerRegAt_eq {base addr : Addr} (h : base.toNat ≤ addr.toNat) (k : addr.toNat < base.toNat + 16) :
    allTimerRegs[addr.toNat - base.toNat]? = some (timerRegAt (addr - base)) := by
  have hoff : (addr - base).toNat = addr.toNat - base.toNat := by
    rw [BitVec.toNat_sub]
    have := addr.isLt
    have := base.isLt
    omega
  unfold timerRegAt
  rw [hoff]
  have hlt : addr.toNat - base.toNat < 16 := by omega
  generalize addr.toNat - base.toNat = n at hlt
  interval_cases n <;> rfl

/-- The sixteen register writes of a reload, as one record equation (R347, R332 to R336, R340): what each register and latch ends as. -/
theorem reloadFrom_allTimerRegs (q : Params) (m : Memory) (base : Addr) (t : Timer) :
    reloadFrom q m base allTimerRegs t =
      let mirror := fun k : Nat => m.read (base + BitVec.ofNat 16 k).toNat
      { t with
        orb := mirror 0, ora := mirror 1, ddrb := mirror 2, ddra := mirror 3, t1cl := t.t1ll, t1ch := t.t1lh
        t1ll := mirror 6, t1lh := mirror 7, t2cl := mirror 8, t2ch := mirror 9, sr := mirror 10, acr := mirror 11
        pcr := mirror 12, ifr := mirror 13 &&& ~~~writeClears q .ier &&& ~~~writeClears q .oraNh
        ier := ierAfterWrite t.ier (mirror 14), oraNh := mirror 15
        outLatchA := ((mirror 15 &&& ~~~mirror 3) ||| (lowByte t.inLatchA &&& mirror 3)).setWidth 16
        outLatchB := ((mirror 0 &&& ~~~t.ddrb) ||| (lowByte t.inLatchB &&& t.ddrb)).setWidth 16 } := by
  have a : ∀ k : Nat, base + BitVec.ofNat 16 k + 1 = base + BitVec.ofNat 16 (k + 1) := by
    intro k; apply BitVec.eq_of_toNat_eq; simp [BitVec.toNat_add]; omega
  obtain ⟨b, hb⟩ : ∃ b, b = base + BitVec.ofNat 16 0 := ⟨_, rfl⟩
  have h0 : base = b := by rw [hb]; simp
  dsimp only
  conv_lhs => rw [h0, hb]
  simp only [allTimerRegs, List.cons_append, List.nil_append, reloadFrom, a]
  cases t
  simp only [Timer.writeRegister, Timer.clearFlags, Timer.put, Timer.recomputeOut, Timer.putOutLatch, Timer.direction, Timer.inLatch,
    Nat.zero_add, Nat.reduceAdd]

end Sys2Proof.Machine
end

