-- ==== Sys2Proof/Tests/Slice0.lean ====
section
/-! SUPPORT. The model's own tests: the decoding of every row of the opcode table, the refusals of `WellFormedBytes` and of the decoder, one step per
instruction against the vectors of 95_test_vectors.md, and the witnesses of the statements' hypotheses. Every expected value is the
spec's. -/

namespace Sys2Proof.Tests

open Sys2Proof.Machine

/-! ### Well-formedness: no term is ill formed (R98); a byte string is, for a mode, when its length is not the mode's (R90) -/

theorem test_wellFormed_refuses_short : WellFormedBytes .abs [0xAD, 0x34] = false ∧ WellFormedBytes .zp [0xA5] = false ∧
    WellFormedBytes .imp [] = false := by decide

theorem test_wellFormed_refuses_long : WellFormedBytes .abs [0xAD, 0x34, 0x12, 0x00] = false ∧ WellFormedBytes .rel [0xD0, 0x05, 0x00] = false ∧
    WellFormedBytes .acc [0x0A, 0x00] = false := by decide

theorem test_wellFormed_accepts : WellFormedBytes .abs [0xAD, 0x34, 0x12] = true ∧ WellFormedBytes .izp [0xB2, 0xFF] = true ∧
    WellFormedBytes .imp [0xEA] = true ∧ WellFormed (.ldaAbs 0xFFFF) = true := by decide

/-- The decoder refuses by name what ends too early. -/
theorem test_decode_refuses : decode [] = .error .noOpcode ∧ decode [0xA9] = .error .missingOperand ∧
    decode [0x4C, 0x00] = .error .missingOperand := ⟨rfl, rfl, rfl⟩

/-! ### Decoding, bit by bit: one word of each family, written out from the encodings of the spec's family files -/

theorem test_bits_load_store : decode [0b10101001, 0x80] = .ok (.ldaImm 0x80, []) ∧
    decode [0b10001101, 0x34, 0x12] = .ok (.staAbs 0x1234, []) ∧ decode [0b10101010] = .ok (.tax, []) := ⟨rfl, rfl, rfl⟩

theorem test_bits_arithmetic : decode [0b01110001, 0x40] = .ok (.adcIzy 0x40, []) ∧ decode [0b11110010, 0xFF] = .ok (.sbcIzp 0xFF, []) ∧
    decode [0b11000001, 0x20] = .ok (.cmpIzx 0x20, []) ∧ decode [0b11011110, 0x00, 0x20] = .ok (.decAbx 0x2000, []) := ⟨rfl, rfl, rfl, rfl⟩

theorem test_bits_logic : decode [0b01010101, 0x10] = .ok (.eorZpx 0x10, []) ∧ decode [0b00101100, 0x00, 0x20] = .ok (.bitAbs 0x2000, []) ∧
    decode [0b00010100, 0x30] = .ok (.trbZp 0x30, []) ∧ decode [0b01101010] = .ok (.rorAcc, []) := ⟨rfl, rfl, rfl, rfl⟩

theorem test_bits_control : decode [0b11010000, 0xFD] = .ok (.bne 0xFD, []) ∧ decode [0b01111100, 0x00, 0x20] = .ok (.jmpIax 0x2000, []) ∧
    decode [0b00100000, 0x34, 0x12] = .ok (.jsr 0x1234, []) ∧ decode [0b01100000] = .ok (.rts, []) := ⟨rfl, rfl, rfl, rfl⟩

theorem test_bits_stack_system : decode [0b11011010] = .ok (.phx, []) ∧ decode [0b00101000] = .ok (.plp, []) ∧
    decode [0b01111000] = .ok (.sei, []) ∧ decode [0b00000000] = .ok (.brk, []) ∧ decode [0b10001001] = .ok (.undef89, []) :=
  ⟨rfl, rfl, rfl, rfl, rfl⟩

/-! ### Decoding of every row of spec/opcode_table.json: its byte in bits 7..0, operand bytes 0x34 and 0x12 above it -/

theorem test_decode_row_0 : [0x123400, 0x123401, 0x123402, 0x123403, 0x123404, 0x123405, 0x123406, 0x123407, 0x123408, 0x123409,
      0x12340A, 0x12340B, 0x12340C, 0x12340D, 0x12340E, 0x12340F].map (decodeTableWord 24) =
    [some Instr.brk, some (Instr.oraIzx 0x34), some Instr.undef02, some Instr.undef03, some (Instr.tsbZp 0x34),
     some (Instr.oraZp 0x34), some (Instr.aslZp 0x34), some Instr.undef07, some Instr.php, some (Instr.oraImm 0x34),
     some Instr.aslAcc, some Instr.undef0B, some (Instr.tsbAbs 0x1234), some (Instr.oraAbs 0x1234), some (Instr.aslAbs 0x1234),
      some Instr.undef0F] := by decide

theorem test_decode_row_1 : [0x123410, 0x123411, 0x123412, 0x123413, 0x123414, 0x123415, 0x123416, 0x123417, 0x123418, 0x123419,
      0x12341A, 0x12341B, 0x12341C, 0x12341D, 0x12341E, 0x12341F].map (decodeTableWord 24) =
    [some (Instr.bpl 0x34), some (Instr.oraIzy 0x34), some (Instr.oraIzp 0x34), some Instr.undef13, some (Instr.trbZp 0x34),
     some (Instr.oraZpx 0x34), some (Instr.aslZpx 0x34), some Instr.undef17, some Instr.clc, some (Instr.oraAby 0x1234),
     some Instr.incAcc, some Instr.undef1B, some (Instr.trbAbs 0x1234), some (Instr.oraAbx 0x1234), some (Instr.aslAbx 0x1234),
      some Instr.undef1F] := by decide

theorem test_decode_row_2 : [0x123420, 0x123421, 0x123422, 0x123423, 0x123424, 0x123425, 0x123426, 0x123427, 0x123428, 0x123429,
      0x12342A, 0x12342B, 0x12342C, 0x12342D, 0x12342E, 0x12342F].map (decodeTableWord 24) =
    [some (Instr.jsr 0x1234), some (Instr.andIzx 0x34), some Instr.undef22, some Instr.undef23, some (Instr.bitZp 0x34),
     some (Instr.andZp 0x34), some (Instr.rolZp 0x34), some Instr.undef27, some Instr.plp, some (Instr.andImm 0x34),
     some Instr.rolAcc, some Instr.undef2B, some (Instr.bitAbs 0x1234), some (Instr.andAbs 0x1234), some (Instr.rolAbs 0x1234),
      some Instr.undef2F] := by decide

theorem test_decode_row_3 : [0x123430, 0x123431, 0x123432, 0x123433, 0x123434, 0x123435, 0x123436, 0x123437, 0x123438, 0x123439,
      0x12343A, 0x12343B, 0x12343C, 0x12343D, 0x12343E, 0x12343F].map (decodeTableWord 24) =
    [some (Instr.bmi 0x34), some (Instr.andIzy 0x34), some (Instr.andIzp 0x34), some Instr.undef33, some Instr.undef34,
     some (Instr.andZpx 0x34), some (Instr.rolZpx 0x34), some Instr.undef37, some Instr.sec, some (Instr.andAby 0x1234),
     some Instr.decAcc, some Instr.undef3B, some Instr.undef3C, some (Instr.andAbx 0x1234), some (Instr.rolAbx 0x1234),
      some Instr.undef3F] := by decide

theorem test_decode_row_4 : [0x123440, 0x123441, 0x123442, 0x123443, 0x123444, 0x123445, 0x123446, 0x123447, 0x123448, 0x123449,
      0x12344A, 0x12344B, 0x12344C, 0x12344D, 0x12344E, 0x12344F].map (decodeTableWord 24) =
    [some Instr.rti, some (Instr.eorIzx 0x34), some Instr.undef42, some Instr.undef43, some Instr.undef44,
     some (Instr.eorZp 0x34), some (Instr.lsrZp 0x34), some Instr.undef47, some Instr.pha, some (Instr.eorImm 0x34),
     some Instr.lsrAcc, some Instr.undef4B, some (Instr.jmpAbs 0x1234), some (Instr.eorAbs 0x1234), some (Instr.lsrAbs 0x1234),
      some Instr.undef4F] := by decide

theorem test_decode_row_5 : [0x123450, 0x123451, 0x123452, 0x123453, 0x123454, 0x123455, 0x123456, 0x123457, 0x123458, 0x123459,
      0x12345A, 0x12345B, 0x12345C, 0x12345D, 0x12345E, 0x12345F].map (decodeTableWord 24) =
    [some (Instr.bvc 0x34), some (Instr.eorIzy 0x34), some (Instr.eorIzp 0x34), some Instr.undef53, some Instr.undef54,
     some (Instr.eorZpx 0x34), some (Instr.lsrZpx 0x34), some Instr.undef57, some Instr.cli, some (Instr.eorAby 0x1234),
     some Instr.phy, some Instr.undef5B, some Instr.undef5C, some (Instr.eorAbx 0x1234), some (Instr.lsrAbx 0x1234),
      some Instr.undef5F] := by decide

theorem test_decode_row_6 : [0x123460, 0x123461, 0x123462, 0x123463, 0x123464, 0x123465, 0x123466, 0x123467, 0x123468, 0x123469,
      0x12346A, 0x12346B, 0x12346C, 0x12346D, 0x12346E, 0x12346F].map (decodeTableWord 24) =
    [some Instr.rts, some (Instr.adcIzx 0x34), some Instr.undef62, some Instr.undef63, some (Instr.stzZp 0x34),
     some (Instr.adcZp 0x34), some (Instr.rorZp 0x34), some Instr.undef67, some Instr.pla, some (Instr.adcImm 0x34),
     some Instr.rorAcc, some Instr.undef6B, some (Instr.jmpInd 0x1234), some (Instr.adcAbs 0x1234), some (Instr.rorAbs 0x1234),
      some Instr.undef6F] := by decide

theorem test_decode_row_7 : [0x123470, 0x123471, 0x123472, 0x123473, 0x123474, 0x123475, 0x123476, 0x123477, 0x123478, 0x123479,
      0x12347A, 0x12347B, 0x12347C, 0x12347D, 0x12347E, 0x12347F].map (decodeTableWord 24) =
    [some (Instr.bvs 0x34), some (Instr.adcIzy 0x34), some (Instr.adcIzp 0x34), some Instr.undef73, some (Instr.stzZpx 0x34),
     some (Instr.adcZpx 0x34), some (Instr.rorZpx 0x34), some Instr.undef77, some Instr.sei, some (Instr.adcAby 0x1234),
     some Instr.ply, some Instr.undef7B, some (Instr.jmpIax 0x1234), some (Instr.adcAbx 0x1234), some (Instr.rorAbx 0x1234),
      some Instr.undef7F] := by decide

theorem test_decode_row_8 : [0x123480, 0x123481, 0x123482, 0x123483, 0x123484, 0x123485, 0x123486, 0x123487, 0x123488, 0x123489,
      0x12348A, 0x12348B, 0x12348C, 0x12348D, 0x12348E, 0x12348F].map (decodeTableWord 24) =
    [some (Instr.bra 0x34), some (Instr.staIzx 0x34), some Instr.undef82, some Instr.undef83, some (Instr.styZp 0x34),
     some (Instr.staZp 0x34), some (Instr.stxZp 0x34), some Instr.undef87, some Instr.dey, some Instr.undef89,
     some Instr.txa, some Instr.undef8B, some (Instr.styAbs 0x1234), some (Instr.staAbs 0x1234), some (Instr.stxAbs 0x1234),
      some Instr.undef8F] := by decide

theorem test_decode_row_9 : [0x123490, 0x123491, 0x123492, 0x123493, 0x123494, 0x123495, 0x123496, 0x123497, 0x123498, 0x123499,
      0x12349A, 0x12349B, 0x12349C, 0x12349D, 0x12349E, 0x12349F].map (decodeTableWord 24) =
    [some (Instr.bcc 0x34), some (Instr.staIzy 0x34), some (Instr.staIzp 0x34), some Instr.undef93, some (Instr.styZpx 0x34),
     some (Instr.staZpx 0x34), some (Instr.stxZpy 0x34), some Instr.undef97, some Instr.tya, some (Instr.staAby 0x1234),
     some Instr.txs, some Instr.undef9B, some (Instr.stzAbs 0x1234), some (Instr.staAbx 0x1234), some (Instr.stzAbx 0x1234),
      some Instr.undef9F] := by decide

theorem test_decode_row_A : [0x1234A0, 0x1234A1, 0x1234A2, 0x1234A3, 0x1234A4, 0x1234A5, 0x1234A6, 0x1234A7, 0x1234A8, 0x1234A9,
      0x1234AA, 0x1234AB, 0x1234AC, 0x1234AD, 0x1234AE, 0x1234AF].map (decodeTableWord 24) =
    [some (Instr.ldyImm 0x34), some (Instr.ldaIzx 0x34), some (Instr.ldxImm 0x34), some Instr.undefA3, some (Instr.ldyZp 0x34),
     some (Instr.ldaZp 0x34), some (Instr.ldxZp 0x34), some Instr.undefA7, some Instr.tay, some (Instr.ldaImm 0x34),
     some Instr.tax, some Instr.undefAB, some (Instr.ldyAbs 0x1234), some (Instr.ldaAbs 0x1234), some (Instr.ldxAbs 0x1234),
      some Instr.undefAF] := by decide

theorem test_decode_row_B : [0x1234B0, 0x1234B1, 0x1234B2, 0x1234B3, 0x1234B4, 0x1234B5, 0x1234B6, 0x1234B7, 0x1234B8, 0x1234B9,
      0x1234BA, 0x1234BB, 0x1234BC, 0x1234BD, 0x1234BE, 0x1234BF].map (decodeTableWord 24) =
    [some (Instr.bcs 0x34), some (Instr.ldaIzy 0x34), some (Instr.ldaIzp 0x34), some Instr.undefB3, some (Instr.ldyZpx 0x34),
     some (Instr.ldaZpx 0x34), some (Instr.ldxZpy 0x34), some Instr.undefB7, some Instr.clv, some (Instr.ldaAby 0x1234),
     some Instr.tsx, some Instr.undefBB, some (Instr.ldyAbx 0x1234), some (Instr.ldaAbx 0x1234), some (Instr.ldxAby 0x1234),
      some Instr.undefBF] := by decide

theorem test_decode_row_C : [0x1234C0, 0x1234C1, 0x1234C2, 0x1234C3, 0x1234C4, 0x1234C5, 0x1234C6, 0x1234C7, 0x1234C8, 0x1234C9,
      0x1234CA, 0x1234CB, 0x1234CC, 0x1234CD, 0x1234CE, 0x1234CF].map (decodeTableWord 24) =
    [some (Instr.cpyImm 0x34), some (Instr.cmpIzx 0x34), some Instr.undefC2, some Instr.undefC3, some (Instr.cpyZp 0x34),
     some (Instr.cmpZp 0x34), some (Instr.decZp 0x34), some Instr.undefC7, some Instr.iny, some (Instr.cmpImm 0x34),
     some Instr.dex, some Instr.undefCB, some (Instr.cpyAbs 0x1234), some (Instr.cmpAbs 0x1234), some (Instr.decAbs 0x1234),
      some Instr.undefCF] := by decide

theorem test_decode_row_D : [0x1234D0, 0x1234D1, 0x1234D2, 0x1234D3, 0x1234D4, 0x1234D5, 0x1234D6, 0x1234D7, 0x1234D8, 0x1234D9,
      0x1234DA, 0x1234DB, 0x1234DC, 0x1234DD, 0x1234DE, 0x1234DF].map (decodeTableWord 24) =
    [some (Instr.bne 0x34), some (Instr.cmpIzy 0x34), some (Instr.cmpIzp 0x34), some Instr.undefD3, some Instr.undefD4,
     some (Instr.cmpZpx 0x34), some (Instr.decZpx 0x34), some Instr.undefD7, some Instr.cld, some (Instr.cmpAby 0x1234),
     some Instr.phx, some Instr.undefDB, some Instr.undefDC, some (Instr.cmpAbx 0x1234), some (Instr.decAbx 0x1234),
      some Instr.undefDF] := by decide

theorem test_decode_row_E : [0x1234E0, 0x1234E1, 0x1234E2, 0x1234E3, 0x1234E4, 0x1234E5, 0x1234E6, 0x1234E7, 0x1234E8, 0x1234E9,
      0x1234EA, 0x1234EB, 0x1234EC, 0x1234ED, 0x1234EE, 0x1234EF].map (decodeTableWord 24) =
    [some (Instr.cpxImm 0x34), some (Instr.sbcIzx 0x34), some Instr.undefE2, some Instr.undefE3, some (Instr.cpxZp 0x34),
     some (Instr.sbcZp 0x34), some (Instr.incZp 0x34), some Instr.undefE7, some Instr.inx, some (Instr.sbcImm 0x34),
     some Instr.nop, some Instr.undefEB, some (Instr.cpxAbs 0x1234), some (Instr.sbcAbs 0x1234), some (Instr.incAbs 0x1234),
      some Instr.undefEF] := by decide

theorem test_decode_row_F : [0x1234F0, 0x1234F1, 0x1234F2, 0x1234F3, 0x1234F4, 0x1234F5, 0x1234F6, 0x1234F7, 0x1234F8, 0x1234F9,
      0x1234FA, 0x1234FB, 0x1234FC, 0x1234FD, 0x1234FE, 0x1234FF].map (decodeTableWord 24) =
    [some (Instr.beq 0x34), some (Instr.sbcIzy 0x34), some (Instr.sbcIzp 0x34), some Instr.undefF3, some Instr.undefF4,
     some (Instr.sbcZpx 0x34), some (Instr.incZpx 0x34), some Instr.undefF7, some Instr.sed, some (Instr.sbcAby 0x1234),
     some Instr.plx, some Instr.undefFB, some Instr.undefFC, some (Instr.sbcAbx 0x1234), some (Instr.incAbx 0x1234),
      some Instr.undefFF] := by decide

/-! ### One step per instruction: the vectors of 95_test_vectors.md, sections 2 and 3, each with its registers, PC, cycles and bytes of memory -/

/-- A start state of the vectors: no timers, no devices, PC 0x0600, the listed bytes of memory. -/
def start (a x y sp p : Byte) (cells : Memory) : State :=
  { State.reset with a := a, x := x, y := y, sp := sp, p := p, pc := 0x0600, mem := cells, timers := [] }

/-- One step with the bytes at 0x0600: A, X, Y, S, P; PC; the cycles; and the bytes at the addresses asked for. -/
def runOne (bytes : List Byte) (s : State) (look : List Addr) : Option (List Byte × Addr × Nat × List Byte) :=
  let ready := loadImage 0x0600 bytes s
  match step ready with
  | .next t => some ([t.a, t.x, t.y, t.sp, t.p], t.pc, nextCycles ready, look.map (fun k => t.memByte k))
  | .fault _ => none
  | .refused _ => none

theorem test_lda_imm : runOne [0xA9, 0x00] (start 0x55 0x00 0x00 0xFF 0x20 []) [] =
    some ([0x00, 0x00, 0x00, 0xFF, 0x22], 0x0602, 2, []) := by decide
theorem test_lda_abx : runOne [0xBD, 0x34, 0x12] (start 0x00 0xFF 0x00 0xFF 0xA0 [(0x1333, 0x7F)]) [] =
    some ([0x7F, 0xFF, 0x00, 0xFF, 0x20], 0x0603, 5, []) := by decide
theorem test_lda_izy : runOne [0xB1, 0x40] (start 0x00 0x00 0x01 0xFF 0x20 [(0x0040, 0xFF), (0x0041, 0x20), (0x2100, 0x01)]) [] =
    some ([0x01, 0x00, 0x01, 0xFF, 0x20], 0x0602, 6, []) := by decide
theorem test_lda_izp : runOne [0xB2, 0xFF] (start 0x00 0x00 0x00 0xFF 0x20 [(0x0000, 0x80), (0x8000, 0xEE)]) [] =
    some ([0xEE, 0x00, 0x00, 0xFF, 0xA0], 0x0602, 5, []) := by decide
theorem test_ldx_zpy : runOne [0xB6, 0x10] (start 0x00 0x00 0xFF 0xFF 0x20 [(0x000F, 0x99)]) [] =
    some ([0x00, 0x99, 0xFF, 0xFF, 0xA0], 0x0602, 4, []) := by decide
theorem test_ldy_abx : runOne [0xBC, 0xF0, 0x12] (start 0x00 0x20 0x01 0xFF 0x20 []) [] =
    some ([0x00, 0x20, 0x00, 0xFF, 0x22], 0x0603, 5, []) := by decide
theorem test_sta_abx : runOne [0x9D, 0xF0, 0x12] (start 0xAB 0x20 0x00 0xFF 0x20 []) [0x1310] =
    some ([0xAB, 0x20, 0x00, 0xFF, 0x20], 0x0603, 5, [0xAB]) := by decide
theorem test_sta_izx : runOne [0x81, 0x20] (start 0x5A 0x04 0x00 0xFF 0x20 [(0x0025, 0x30)]) [0x3000] =
    some ([0x5A, 0x04, 0x00, 0xFF, 0x20], 0x0602, 6, [0x5A]) := by decide
theorem test_sta_izy : runOne [0x91, 0x40] (start 0x77 0x00 0x01 0xFF 0x20 [(0x0040, 0xFF), (0x0041, 0x20)]) [0x2100] =
    some ([0x77, 0x00, 0x01, 0xFF, 0x20], 0x0602, 6, [0x77]) := by decide
theorem test_stx_zpy : runOne [0x96, 0x10] (start 0x00 0x42 0xF8 0xFF 0x20 []) [0x0008] =
    some ([0x00, 0x42, 0xF8, 0xFF, 0x20], 0x0602, 4, [0x42]) := by decide
theorem test_sty_abs : runOne [0x8C, 0x00, 0x20] (start 0x00 0x00 0x80 0xFF 0x20 []) [0x2000] =
    some ([0x00, 0x00, 0x80, 0xFF, 0x20], 0x0603, 4, [0x80]) := by decide
theorem test_stz_zp : runOne [0x64, 0x30] (start 0x11 0x00 0x00 0xFF 0x20 [(0x0030, 0xFF)]) [0x0030] =
    some ([0x11, 0x00, 0x00, 0xFF, 0x20], 0x0602, 3, [0x00]) := by decide
theorem test_stz_abx : runOne [0x9E, 0x00, 0x20] (start 0x00 0x05 0x00 0xFF 0x20 [(0x2005, 0xFF)]) [0x2005] =
    some ([0x00, 0x05, 0x00, 0xFF, 0x20], 0x0603, 5, [0x00]) := by decide
theorem test_tax : runOne [0xAA] (start 0x00 0x01 0x00 0xFF 0x20 []) [] =
    some ([0x00, 0x00, 0x00, 0xFF, 0x22], 0x0601, 2, []) := by decide
theorem test_tay : runOne [0xA8] (start 0x80 0x00 0x00 0xFF 0x20 []) [] =
    some ([0x80, 0x00, 0x80, 0xFF, 0xA0], 0x0601, 2, []) := by decide
theorem test_txa : runOne [0x8A] (start 0x00 0x7F 0x00 0xFF 0xA2 []) [] =
    some ([0x7F, 0x7F, 0x00, 0xFF, 0x20], 0x0601, 2, []) := by decide
theorem test_tya : runOne [0x98] (start 0x01 0x00 0x00 0xFF 0x20 []) [] =
    some ([0x00, 0x00, 0x00, 0xFF, 0x22], 0x0601, 2, []) := by decide
theorem test_tsx : runOne [0xBA] (start 0x00 0x00 0x00 0xFD 0x20 []) [] =
    some ([0x00, 0xFD, 0x00, 0xFD, 0xA0], 0x0601, 2, []) := by decide
theorem test_txs : runOne [0x9A] (start 0x00 0x00 0x00 0xFF 0x20 []) [] =
    some ([0x00, 0x00, 0x00, 0x00, 0x20], 0x0601, 2, []) := by decide
theorem test_adc_imm : runOne [0x69, 0x50] (start 0x50 0x00 0x00 0xFF 0x20 []) [] =
    some ([0xA0, 0x00, 0x00, 0xFF, 0xE0], 0x0602, 2, []) := by decide
theorem test_adc_imm_2 : runOne [0x69, 0x46] (start 0x58 0x00 0x00 0xFF 0x29 []) [] =
    some ([0x05, 0x00, 0x00, 0xFF, 0x69], 0x0602, 2, []) := by decide
theorem test_sbc_imm : runOne [0xE9, 0x50] (start 0x50 0x00 0x00 0xFF 0x20 []) [] =
    some ([0xFF, 0x00, 0x00, 0xFF, 0xA0], 0x0602, 2, []) := by decide
theorem test_sbc_imm_2 : runOne [0xE9, 0x01] (start 0x00 0x00 0x00 0xFF 0x29 []) [] =
    some ([0x99, 0x00, 0x00, 0xFF, 0xA8], 0x0602, 2, []) := by decide
theorem test_cmp_imm : runOne [0xC9, 0x40] (start 0x40 0x00 0x00 0xFF 0x20 []) [] =
    some ([0x40, 0x00, 0x00, 0xFF, 0x23], 0x0602, 2, []) := by decide
theorem test_cmp_imm_2 : runOne [0xC9, 0x41] (start 0x40 0x00 0x00 0xFF 0x21 []) [] =
    some ([0x40, 0x00, 0x00, 0xFF, 0xA0], 0x0602, 2, []) := by decide
theorem test_cpx_imm : runOne [0xE0, 0x10] (start 0x00 0x80 0x00 0xFF 0x20 []) [] =
    some ([0x00, 0x80, 0x00, 0xFF, 0x21], 0x0602, 2, []) := by decide
theorem test_cpy_zp : runOne [0xC4, 0x20] (start 0x00 0x00 0x00 0xFF 0x20 [(0x0020, 0x01)]) [] =
    some ([0x00, 0x00, 0x00, 0xFF, 0xA0], 0x0602, 3, []) := by decide
theorem test_inc_zp : runOne [0xE6, 0x20] (start 0x00 0x00 0x00 0xFF 0x20 [(0x0020, 0xFF)]) [0x0020] =
    some ([0x00, 0x00, 0x00, 0xFF, 0x22], 0x0602, 5, [0x00]) := by decide
theorem test_inc_acc : runOne [0x1A] (start 0x7F 0x00 0x00 0xFF 0x20 []) [] =
    some ([0x80, 0x00, 0x00, 0xFF, 0xA0], 0x0601, 2, []) := by decide
theorem test_dec_abx : runOne [0xDE, 0x00, 0x20] (start 0x00 0x01 0x00 0xFF 0x20 []) [0x2001] =
    some ([0x00, 0x01, 0x00, 0xFF, 0xA0], 0x0603, 7, [0xFF]) := by decide
theorem test_dec_acc : runOne [0x3A] (start 0x01 0x00 0x00 0xFF 0x20 []) [] =
    some ([0x00, 0x00, 0x00, 0xFF, 0x22], 0x0601, 2, []) := by decide
theorem test_inx : runOne [0xE8] (start 0x00 0xFF 0x00 0xFF 0x20 []) [] =
    some ([0x00, 0x00, 0x00, 0xFF, 0x22], 0x0601, 2, []) := by decide
theorem test_iny : runOne [0xC8] (start 0x00 0x00 0x7F 0xFF 0x20 []) [] =
    some ([0x00, 0x00, 0x80, 0xFF, 0xA0], 0x0601, 2, []) := by decide
theorem test_dex : runOne [0xCA] (start 0x00 0x00 0x00 0xFF 0x20 []) [] =
    some ([0x00, 0xFF, 0x00, 0xFF, 0xA0], 0x0601, 2, []) := by decide
theorem test_dey : runOne [0x88] (start 0x00 0x00 0x01 0xFF 0x20 []) [] =
    some ([0x00, 0x00, 0x00, 0xFF, 0x22], 0x0601, 2, []) := by decide
theorem test_and_imm : runOne [0x29, 0x0F] (start 0xF0 0x00 0x00 0xFF 0x20 []) [] =
    some ([0x00, 0x00, 0x00, 0xFF, 0x22], 0x0602, 2, []) := by decide
theorem test_ora_izp : runOne [0x12, 0x20] (start 0x01 0x00 0x00 0xFF 0x20 [(0x0021, 0x30), (0x3000, 0x80)]) [] =
    some ([0x81, 0x00, 0x00, 0xFF, 0xA0], 0x0602, 5, []) := by decide
theorem test_eor_zpx : runOne [0x55, 0x10] (start 0xFF 0xFF 0x00 0xFF 0x20 [(0x000F, 0xFF)]) [] =
    some ([0x00, 0xFF, 0x00, 0xFF, 0x22], 0x0602, 4, []) := by decide
theorem test_bit_zp : runOne [0x24, 0x20] (start 0x01 0x00 0x00 0xFF 0x20 [(0x0020, 0xC0)]) [] =
    some ([0x01, 0x00, 0x00, 0xFF, 0xE2], 0x0602, 3, []) := by decide
theorem test_bit_abs : runOne [0x2C, 0x00, 0x20] (start 0x01 0x00 0x00 0xFF 0xE2 [(0x2000, 0x3F)]) [] =
    some ([0x01, 0x00, 0x00, 0xFF, 0x20], 0x0603, 4, []) := by decide
theorem test_trb_zp : runOne [0x14, 0x30] (start 0x0F 0x00 0x00 0xFF 0x20 [(0x0030, 0x3C)]) [0x0030] =
    some ([0x0F, 0x00, 0x00, 0xFF, 0x20], 0x0602, 5, [0x30]) := by decide
theorem test_tsb_abs : runOne [0x0C, 0x00, 0x20] (start 0x0F 0x00 0x00 0xFF 0xE0 [(0x2000, 0x30)]) [0x2000] =
    some ([0x0F, 0x00, 0x00, 0xFF, 0xE2], 0x0603, 6, [0x3F]) := by decide
theorem test_asl_acc : runOne [0x0A] (start 0x81 0x00 0x00 0xFF 0x20 []) [] =
    some ([0x02, 0x00, 0x00, 0xFF, 0x21], 0x0601, 2, []) := by decide
theorem test_asl_zp : runOne [0x06, 0x20] (start 0x00 0x00 0x00 0xFF 0x20 [(0x0020, 0x80)]) [0x0020] =
    some ([0x00, 0x00, 0x00, 0xFF, 0x23], 0x0602, 5, [0x00]) := by decide
theorem test_lsr_acc : runOne [0x4A] (start 0x01 0x00 0x00 0xFF 0xA0 []) [] =
    some ([0x00, 0x00, 0x00, 0xFF, 0x23], 0x0601, 2, []) := by decide
theorem test_lsr_abx : runOne [0x5E, 0x00, 0x20] (start 0x00 0xFF 0x00 0xFF 0x20 [(0x20FF, 0xFE)]) [0x20FF] =
    some ([0x00, 0xFF, 0x00, 0xFF, 0x20], 0x0603, 7, [0x7F]) := by decide
theorem test_rol_acc : runOne [0x2A] (start 0x40 0x00 0x00 0xFF 0x21 []) [] =
    some ([0x81, 0x00, 0x00, 0xFF, 0xA0], 0x0601, 2, []) := by decide
theorem test_rol_zpx : runOne [0x36, 0x20] (start 0x00 0x01 0x00 0xFF 0x20 [(0x0021, 0x80)]) [0x0021] =
    some ([0x00, 0x01, 0x00, 0xFF, 0x23], 0x0602, 6, [0x00]) := by decide
theorem test_ror_acc : runOne [0x6A] (start 0x02 0x00 0x00 0xFF 0x21 []) [] =
    some ([0x81, 0x00, 0x00, 0xFF, 0xA0], 0x0601, 2, []) := by decide
theorem test_ror_abs : runOne [0x6E, 0x00, 0x20] (start 0x00 0x00 0x00 0xFF 0x20 [(0x2000, 0x01)]) [0x2000] =
    some ([0x00, 0x00, 0x00, 0xFF, 0x23], 0x0603, 6, [0x00]) := by decide
theorem test_bne : runOne [0xD0, 0x05] (start 0x00 0x00 0x00 0xFF 0x20 []) [] =
    some ([0x00, 0x00, 0x00, 0xFF, 0x20], 0x0607, 3, []) := by decide
theorem test_bne_2 : runOne [0xD0, 0x05] (start 0x00 0x00 0x00 0xFF 0x22 []) [] =
    some ([0x00, 0x00, 0x00, 0xFF, 0x22], 0x0602, 2, []) := by decide
theorem test_bcs : runOne [0xB0, 0x80] (start 0x00 0x00 0x00 0xFF 0x21 []) [] =
    some ([0x00, 0x00, 0x00, 0xFF, 0x21], 0x0582, 4, []) := by decide
theorem test_beq : runOne [0xF0, 0xFE] (start 0x00 0x00 0x00 0xFF 0x22 []) [] =
    some ([0x00, 0x00, 0x00, 0xFF, 0x22], 0x0600, 3, []) := by decide
theorem test_bpl : runOne [0x10, 0x10] (start 0x00 0x00 0x00 0xFF 0xA0 []) [] =
    some ([0x00, 0x00, 0x00, 0xFF, 0xA0], 0x0602, 2, []) := by decide
theorem test_bmi : runOne [0x30, 0x00] (start 0x00 0x00 0x00 0xFF 0xA0 []) [] =
    some ([0x00, 0x00, 0x00, 0xFF, 0xA0], 0x0602, 3, []) := by decide
theorem test_bvc : runOne [0x50, 0x02] (start 0x00 0x00 0x00 0xFF 0x20 []) [] =
    some ([0x00, 0x00, 0x00, 0xFF, 0x20], 0x0604, 3, []) := by decide
theorem test_bvs : runOne [0x70, 0x02] (start 0x00 0x00 0x00 0xFF 0x20 []) [] =
    some ([0x00, 0x00, 0x00, 0xFF, 0x20], 0x0602, 2, []) := by decide
theorem test_bcc : runOne [0x90, 0x02] (start 0x00 0x00 0x00 0xFF 0x20 []) [] =
    some ([0x00, 0x00, 0x00, 0xFF, 0x20], 0x0604, 3, []) := by decide
theorem test_bra : runOne [0x80, 0x02] (start 0x00 0x00 0x00 0xFF 0x20 []) [] =
    some ([0x00, 0x00, 0x00, 0xFF, 0x20], 0x0604, 3, []) := by decide
theorem test_jmp_abs : runOne [0x4C, 0x00, 0x80] (start 0x00 0x00 0x00 0xFF 0x20 []) [] =
    some ([0x00, 0x00, 0x00, 0xFF, 0x20], 0x8000, 3, []) := by decide
theorem test_jmp_ind : runOne [0x6C, 0xFF, 0x12] (start 0x00 0x00 0x00 0xFF 0x20 [(0x12FF, 0x78), (0x1300, 0x56)]) [] =
    some ([0x00, 0x00, 0x00, 0xFF, 0x20], 0x5678, 5, []) := by decide
theorem test_jmp_iax : runOne [0x7C, 0x00, 0x20] (start 0x00 0x04 0x00 0xFF 0x20 [(0x2004, 0xCD), (0x2005, 0xAB)]) [] =
    some ([0x00, 0x04, 0x00, 0xFF, 0x20], 0xABCD, 6, []) := by decide
theorem test_jsr_abs : runOne [0x20, 0x34, 0x12] (start 0x00 0x00 0x00 0xFF 0x20 []) [0x01FE, 0x01FF] =
    some ([0x00, 0x00, 0x00, 0xFD, 0x20], 0x1234, 6, [0x02, 0x06]) := by decide
theorem test_jsr_abs_2 : runOne [0x20, 0x34, 0x12] (start 0x00 0x00 0x00 0x00 0x20 []) [0x0100, 0x01FF] =
    some ([0x00, 0x00, 0x00, 0xFE, 0x20], 0x1234, 6, [0x06, 0x02]) := by decide
theorem test_rts : runOne [0x60] (start 0x00 0x00 0x00 0xFD 0x20 [(0x01FE, 0x02), (0x01FF, 0x06)]) [] =
    some ([0x00, 0x00, 0x00, 0xFF, 0x20], 0x0603, 6, []) := by decide
theorem test_rts_2 : runOne [0x60] (start 0x00 0x00 0x00 0xFF 0x20 [(0x0100, 0xFF), (0x0101, 0xFF)]) [] =
    some ([0x00, 0x00, 0x00, 0x01, 0x20], 0x0000, 6, []) := by decide
theorem test_pha : runOne [0x48] (start 0x42 0x00 0x00 0xFF 0x20 []) [0x01FF] =
    some ([0x42, 0x00, 0x00, 0xFE, 0x20], 0x0601, 3, [0x42]) := by decide
theorem test_pla : runOne [0x68] (start 0x55 0x00 0x00 0xFE 0x20 []) [] =
    some ([0x00, 0x00, 0x00, 0xFF, 0x22], 0x0601, 4, []) := by decide
theorem test_phx : runOne [0xDA] (start 0x00 0x11 0x00 0x00 0x20 []) [0x0100] =
    some ([0x00, 0x11, 0x00, 0xFF, 0x20], 0x0601, 3, [0x11]) := by decide
theorem test_plx : runOne [0xFA] (start 0x00 0x00 0x00 0xFF 0x20 [(0x0100, 0x80)]) [] =
    some ([0x00, 0x80, 0x00, 0x00, 0xA0], 0x0601, 4, []) := by decide
theorem test_phy : runOne [0x5A] (start 0x00 0x00 0x22 0x80 0x20 []) [0x0180] =
    some ([0x00, 0x00, 0x22, 0x7F, 0x20], 0x0601, 3, [0x22]) := by decide
theorem test_ply : runOne [0x7A] (start 0x00 0x00 0x00 0x80 0x20 [(0x0181, 0x01)]) [] =
    some ([0x00, 0x00, 0x01, 0x81, 0x20], 0x0601, 4, []) := by decide
theorem test_php : runOne [0x08] (start 0x00 0x00 0x00 0xFF 0xA1 []) [0x01FF] =
    some ([0x00, 0x00, 0x00, 0xFE, 0xA1], 0x0601, 3, [0xB1]) := by decide
theorem test_plp : runOne [0x28] (start 0x00 0x00 0x00 0xFE 0x20 [(0x01FF, 0xC3)]) [] =
    some ([0x00, 0x00, 0x00, 0xFF, 0xE3], 0x0601, 4, []) := by decide
theorem test_plp_2 : runOne [0x28] (start 0x00 0x00 0x00 0xFE 0xFF []) [] =
    some ([0x00, 0x00, 0x00, 0xFF, 0x20], 0x0601, 4, []) := by decide
theorem test_clc : runOne [0x18] (start 0x00 0x00 0x00 0xFF 0xFF []) [] =
    some ([0x00, 0x00, 0x00, 0xFF, 0xFE], 0x0601, 2, []) := by decide
theorem test_sec : runOne [0x38] (start 0x00 0x00 0x00 0xFF 0x20 []) [] =
    some ([0x00, 0x00, 0x00, 0xFF, 0x21], 0x0601, 2, []) := by decide
theorem test_cli : runOne [0x58] (start 0x00 0x00 0x00 0xFF 0x24 []) [] =
    some ([0x00, 0x00, 0x00, 0xFF, 0x20], 0x0601, 2, []) := by decide
theorem test_sei : runOne [0x78] (start 0x00 0x00 0x00 0xFF 0x20 []) [] =
    some ([0x00, 0x00, 0x00, 0xFF, 0x24], 0x0601, 2, []) := by decide
theorem test_cld : runOne [0xD8] (start 0x00 0x00 0x00 0xFF 0x28 []) [] =
    some ([0x00, 0x00, 0x00, 0xFF, 0x20], 0x0601, 2, []) := by decide
theorem test_sed : runOne [0xF8] (start 0x00 0x00 0x00 0xFF 0x20 []) [] =
    some ([0x00, 0x00, 0x00, 0xFF, 0x28], 0x0601, 2, []) := by decide
theorem test_clv : runOne [0xB8] (start 0x00 0x00 0x00 0xFF 0x60 []) [] =
    some ([0x00, 0x00, 0x00, 0xFF, 0x20], 0x0601, 2, []) := by decide
theorem test_nop : runOne [0xEA] (start 0x01 0x02 0x03 0xFF 0xA3 []) [] =
    some ([0x01, 0x02, 0x03, 0xFF, 0xA3], 0x0601, 2, []) := by decide
theorem test_brk : runOne [0x00, 0xEA] (start 0x00 0x00 0x00 0xFF 0x20 [(0xFFFF, 0x90)]) [0x01FD, 0x01FE, 0x01FF] =
    some ([0x00, 0x00, 0x00, 0xFC, 0x34], 0x9000, 7, [0x30, 0x02, 0x06]) := by decide
theorem test_brk_2 : runOne [0x00, 0xEA] (start 0x00 0x00 0x00 0x01 0xEF [(0xFFFF, 0x90)]) [0x0100, 0x0101, 0x01FF] =
    some ([0x00, 0x00, 0x00, 0xFE, 0xFF], 0x9000, 7, [0x02, 0x06, 0xFF]) := by decide
theorem test_undef_02 : runOne [0x02, 0xEA] (start 0x00 0x00 0x00 0xFF 0x21 [(0xFFFF, 0x90)]) [0x01FD, 0x01FE, 0x01FF] =
    some ([0x00, 0x00, 0x00, 0xFC, 0x35], 0x9000, 7, [0x31, 0x02, 0x06]) := by decide
theorem test_undef_89 : runOne [0x89, 0xFF] (start 0x00 0x00 0x00 0xFF 0x20 [(0xFFFF, 0x90)]) [0x01FD, 0x01FE, 0x01FF] =
    some ([0x00, 0x00, 0x00, 0xFC, 0x34], 0x9000, 7, [0x30, 0x02, 0x06]) := by decide
theorem test_undef_ff : runOne [0xFF] (start 0x00 0x00 0x00 0xFF 0x20 [(0xFFFE, 0x34), (0xFFFF, 0x12)]) [0x01FD, 0x01FE, 0x01FF] =
    some ([0x00, 0x00, 0x00, 0xFC, 0x34], 0x1234, 7, [0x30, 0x02, 0x06]) := by decide
theorem test_rti : runOne [0x40] (start 0x00 0x00 0x00 0xFC 0x34 [(0x01FD, 0x30), (0x01FE, 0x02), (0x01FF, 0x06)]) [] =
    some ([0x00, 0x00, 0x00, 0xFF, 0x30], 0x0602, 6, []) := by decide
theorem test_rti_2 : runOne [0x40] (start 0x00 0x00 0x00 0xFC 0x24 [(0x01FD, 0xCB), (0x01FE, 0x34), (0x01FF, 0x12)]) [] =
    some ([0x00, 0x00, 0x00, 0xFF, 0xEB], 0x1234, 6, []) := by decide
theorem test_lda_zp : runOne [0xA5, 0x80] (start 0x00 0x00 0x00 0xFF 0x20 [(0x0080, 0x11)]) [] =
    some ([0x11, 0x00, 0x00, 0xFF, 0x20], 0x0602, 3, []) := by decide
theorem test_lda_zpx : runOne [0xB5, 0xF0] (start 0x00 0x20 0x00 0xFF 0x20 [(0x0010, 0x22), (0x0110, 0xEE)]) [] =
    some ([0x22, 0x20, 0x00, 0xFF, 0x20], 0x0602, 4, []) := by decide
theorem test_lda_abs : runOne [0xAD, 0x34, 0x12] (start 0x00 0x00 0x00 0xFF 0x20 [(0x1234, 0x44)]) [] =
    some ([0x44, 0x00, 0x00, 0xFF, 0x20], 0x0603, 4, []) := by decide
theorem test_lda_abx_2 : runOne [0xBD, 0xF0, 0x12] (start 0x00 0x0F 0x00 0xFF 0x20 [(0x12FF, 0x55)]) [] =
    some ([0x55, 0x0F, 0x00, 0xFF, 0x20], 0x0603, 4, []) := by decide
theorem test_lda_aby : runOne [0xB9, 0xF0, 0x12] (start 0x00 0x00 0xFF 0xFF 0x20 [(0x13EF, 0x58)]) [] =
    some ([0x58, 0x00, 0xFF, 0xFF, 0x20], 0x0603, 5, []) := by decide
theorem test_sta_aby : runOne [0x99, 0xF0, 0x12] (start 0x59 0x00 0xFF 0xFF 0x20 []) [0x13EF] =
    some ([0x59, 0x00, 0xFF, 0xFF, 0x20], 0x0603, 5, [0x59]) := by decide
theorem test_inc_abx : runOne [0xFE, 0xF0, 0x12] (start 0x00 0x10 0x00 0xFF 0x20 [(0x1300, 0x5A)]) [0x1300] =
    some ([0x00, 0x10, 0x00, 0xFF, 0x20], 0x0603, 7, [0x5B]) := by decide
theorem test_lda_izx : runOne [0xA1, 0xF0] (start 0x00 0x0F 0x00 0xFF 0x20 [(0x0000, 0x12), (0x00FF, 0x34), (0x0100, 0xEE), (0x1234,
      0x66)]) [] =
    some ([0x66, 0x0F, 0x00, 0xFF, 0x20], 0x0602, 6, []) := by decide
theorem test_lda_izx_2 : runOne [0xA1, 0x20] (start 0x00 0xF0 0x00 0xFF 0x20 [(0x0011, 0x40), (0x4000, 0x67)]) [] =
    some ([0x67, 0xF0, 0x00, 0xFF, 0x20], 0x0602, 6, []) := by decide
theorem test_lda_izy_2 : runOne [0xB1, 0x40] (start 0x00 0x00 0x0F 0xFF 0x20 [(0x0040, 0xF0), (0x0041, 0x20), (0x20FF, 0x68)]) [] =
    some ([0x68, 0x00, 0x0F, 0xFF, 0x20], 0x0602, 5, []) := by decide

/-! ### Machine-level vectors -/

/-- A state with code for a step at 0x0600 (NOP unless given) and the vectors of section 4.2: NMI 0x0710, reset 0x0600, IRQ 0x0700. -/
def withVectors (p : Byte) : State :=
  start 0 0 0 0xFF p [(0x0600, 0xEA), (0xFFFA, 0x10), (0xFFFB, 0x07), (0xFFFD, 0x06), (0xFFFF, 0x07)]

/-- After one step: PC; the latches; S, P and the three stacked bytes. -/
def interrupted (s : State) : Option (Addr × List Bool × List Byte) :=
  match step s with
  | .next t => some (t.pc, [t.irqPending, t.nmiPending], [t.sp, t.p, t.memByte 0x01FF, t.memByte 0x01FE, t.memByte 0x01FD])
  | .fault _ => none
  | .refused _ => none

/-- Vector I1: an IRQ is taken after the NOP. -/
theorem test_irq_taken : interrupted { withVectors 0x20 with irqPending := true } =
    some (0x0700, [false, false], [0xFC, 0x24, 0x06, 0x01, 0x20]) := by decide

/-- Vector I2: with I set it stays pending. -/
theorem test_irq_masked : interrupted { withVectors 0x24 with irqPending := true } =
    some (0x0601, [true, false], [0xFF, 0x24, 0x00, 0x00, 0x00]) := by decide

/-- Vector I3: an NMI is taken although I is set. -/
theorem test_nmi_taken : interrupted { withVectors 0x24 with nmiPending := true } =
    some (0x0710, [false, false], [0xFC, 0x24, 0x06, 0x01, 0x24]) := by decide

/-- Property S4, IRQ and NMI at one boundary: the IRQ's bytes lie above the NMI's, whose return address is the IRQ handler. -/
theorem test_irq_then_nmi :
    (match step { withVectors 0x20 with irqPending := true, nmiPending := true } with
      | .next t => some (t.pc, t.sp, [0x01FF, 0x01FE, 0x01FD, 0x01FC, 0x01FB, 0x01FA].map (fun k => t.memByte k))
      | .fault _ => none
      | .refused _ => none) = some (0x0710, 0xF9, [0x06, 0x01, 0x20, 0x07, 0x00, 0x24]) := by decide

/-- Property S3: reset, from registers that are all different. -/
theorem test_reset :
    let s := { withVectors 0xEF with pc := 0x1234, a := 0xAA, sp := 0x80, irqPending := true, nmiPending := true, nmiDelay := 5 }
    let t := cpuReset s
    (t.pc, t.sp, t.p, t.a, t.irqPending, t.nmiPending, t.nmiDelay) = (0x0600, 0xFF, 0x20, 0xAA, false, false, 0) := by decide

/-- The regions of section 4.1, the callbacks' values given by the script: Dev0 reads 0x0F and backs memory, Dev1 reads 0xA0, Dev2 reads
0x42. -/
def threeDevices (script : List DeviceAnswer) : State :=
  { State.reset with
    regions := [⟨0x8000, 0x83FF, some (.external 0), none, true⟩, ⟨0x8200, 0x82FF, some (.external 1), some (.external 1), false⟩,
      ⟨0x9000, 0x90FF, some (.external 2), some (.external 2), false⟩]
    mem := [(0x8010, 0x30), (0x8210, 0x10), (0x9010, 0x11), (0xA000, 0x99)]
    script := script }

/-- Vectors B1 to B4. -/
theorem test_bus_reads :
    (busRead 0x8210 (threeDevices [⟨0x0F, []⟩, ⟨0xA0, []⟩])).1 = 0xBF ∧ (busRead 0x8010 (threeDevices [⟨0x0F, []⟩])).1 = 0x3F ∧
    (busRead 0xA000 (threeDevices [])).1 = 0x99 ∧ (busRead 0x9010 (threeDevices [⟨0x42, []⟩])).1 = 0x42 := by decide

/-- Vectors B6, B7, B8: write-through, a read-only byte kept, a read-only byte a backing region stores to. -/
theorem test_bus_writes :
    (busWrite 0x9010 0x77 (threeDevices [⟨0, []⟩])).memByte 0x9010 = 0x77 ∧
    (busWrite 0x9010 0x88 (markReadOnly 0x9010 0x9010 (threeDevices [⟨0, []⟩]))).memByte 0x9010 = 0x11 ∧
    (busWrite 0x8210 0x66 (markReadOnly 0x8210 0x8210 (threeDevices [⟨0, []⟩]))).memByte 0x8210 = 0x66 := by decide

/-! ### The timers -/

/-- A timer instance with ACR, latch and counter 1 and counter 2 given. -/
def timerWith (acr : Byte) (latch1 counter1 counter2 : Nat) : Timer :=
  (({ Timer.fresh none with acr := acr, t1ll := BitVec.ofNat 8 latch1, t1lh := BitVec.ofNat 8 (latch1 / 256) }).putCounter1
    counter1).putCounter2 counter2

/-- Property S7: latch 9, counter 0, one cycle: the counter is 9 and IFR bit 6 set. -/
theorem test_timer1_continuous :
    let t := ((timerWith 0x40 9 0 0).update 1).2
    (t.counter1, t.ifr) = (9, 0x40) := by decide

/-- R327: one-shot with the output line: the counter stops at 0, IFR bit 6 and the line are set. -/
theorem test_timer1_oneshot :
    let t := ((timerWith 0x80 0 2 0).update 2).2
    (t.counter1, t.ifr, t.outLatchB) = (0, 0x40, 0x0080) := by decide

/-- R327: timer 2 passes below zero with its interrupt enabled. -/
theorem test_timer2 :
    let u := ({ timerWith 0x20 0 0 2 with ier := 0x20 }).update 4
    (u.1, u.2.counter2, u.2.ifr) = (true, 0xFFFE, 0xA0) := by decide

/-- Vectors T1 and T4: a read of T1C-L clears bit 6; a write of T1C-H reloads the counter. -/
theorem test_timer_registers :
    (let got := ({ Timer.fresh none with ifr := 0xC0, t1cl := 0x5F }).readRegister Params.standard .t1cl
     (got.1, got.2.ifr) = (0x5F, 0x80)) ∧
    (let t := ({ Timer.fresh none with ifr := 0x40, t1ll := 0x09, t1lh := 0x01 }).writeRegister Params.standard .t1ch 0xFF
     (t.t1cl, t.t1ch, t.ifr) = (0x09, 0x01, 0x00)) := by decide

/-- Vectors T6 and T7: IER's set and clear rule; bit 7 is never stored. -/
theorem test_timer_ier :
    ierAfterWrite 0x00 0xC0 = 0x40 ∧ ierAfterWrite 0x40 0xA0 = 0x60 ∧ ierAfterWrite 0x60 0x40 = 0x20 ∧ ierAfterWrite 0x20 0x7F = 0x00 ∧
    ierAfterWrite 0x00 0xFF = 0x7F := by decide

/-- Vectors T9 and T10: the output latch, and the visible registers of an input port. -/
theorem test_timer_ports :
    (({ Timer.fresh none with ddrb := 0x0F, inLatchB := 0x00A5 }).writeRegister Params.standard .orb 0x3C).outLatchB = 0x0035 ∧
    (({ Timer.fresh none with ddra := 0xF0 }).setInputPort .a .orIn 0x01FF).oraNh = 0x0F := by decide

/-- The vector of section 4.4: `reload` of an instance at 0xC000. -/
theorem test_timer_reload :
    let image := [0x3C, 0x00, 0x0F, 0x00, 0x11, 0x22, 0x09, 0x01, 0x34, 0x12, 0x00, 0x40, 0x00, 0x40, 0xC0, 0x00]
    let s := loadImage 0xC000 image { State.reset with timers := [{ Timer.fresh (some 0xC000) with inLatchB := 0x00A5 }] }
    (timerReload s).timers.map (fun t => (allTimerRegs.map (fun r => t.reg r), t.outLatchB)) =
      [([0x3C, 0x00, 0x0F, 0x00, 0x00, 0x00, 0x09, 0x01, 0x34, 0x12, 0x00, 0x40, 0x00, 0x40, 0x40, 0x00], 0x003C)] := by decide

/-- R8: a machine with other parameters runs with them: a base value, a decimal sum, the flags a read of T1C-L clears. -/
theorem test_other_parameters :
    let q : Params := { Params.standard with
      baseCycles := [(0xEA, 3)], decAdc := [((0x0A, 0x01, false), (0x77, true))], readClears := [(.t1cl, 0x60)] }
    let s := { State.reset with params := q, a := 0x0A, p := 0x28 }
    cyclesOf .nop s = 3 ∧ cyclesOf .inx s = 2 ∧
    (match exec (.adcImm 0x01) s with
      | .next t => some (t.a, t.p)
      | _ => none) = some (0x77, 0x29) ∧
    (({ Timer.fresh none with ifr := 0x60 }).readRegister q .t1cl).2.ifr = 0x00 := by decide

/-- R318: the model's choice where two instances share a base (log 25); another instance is left alone. -/
theorem test_timer_reset_shared_base :
    let t := { Timer.fresh (some 0xC000) with t1ll := 0x09 }
    let u := { Timer.fresh (some 0xC010) with t1ll := 0x07 }
    (timerReset 0xC000 { State.reset with timers := [t, u, t] }).timers.map (fun t => t.t1ll) = [0x00, 0x07, 0x00] := by decide

/-! ### Witnesses: a state and operands that meet the hypotheses of each statement, each clause at a boundary of its range -/

/-- EncodeOfDecode. -/
theorem witness_EncodeOfDecode : decode [0xA5, 0x10, 0x77] = .ok (.ldaZp 0x10, [0x77]) := rfl

/-- DecoderIsTotal: for LDA absolute, exactly enough bytes, and one too few. -/
theorem witness_DecoderIsTotal :
    (3 ≤ [0x34#8, 0x12#8].length + 1 ∧ decode [0xAD, 0x34, 0x12] = .ok (.ldaAbs 0x1234, [])) ∧
    ([0x34#8].length + 1 < 3 ∧ decode [0xAD, 0x34] = .error .missingOperand) := ⟨⟨by decide, rfl⟩, ⟨by decide, rfl⟩⟩

/-- The encoding tables have as many rows as the spec's, the undefined slots are 81, and none is empty. -/
theorem witness_forms :
    [ldaForms, ldxForms, ldyForms, adcForms, sbcForms, cmpForms, cpxForms, cpyForms, andForms, oraForms, eorForms].map List.length
      = [9, 5, 5, 9, 9, 9, 3, 3, 9, 9, 9] ∧
    [staForms, stxForms, styForms, stzForms, incForms, decForms, bitForms, trbForms, tsbForms, aslForms, lsrForms, rolForms,
      rorForms].map List.length = [8, 3, 3, 4, 4, 4, 2, 2, 2, 4, 4, 4, 4] ∧
    (branchRows.length, flagRows.length, impliedFrames.length, undefinedSlots.length) = (9, 7, 30, 81) := by decide

/-- A state whose instruction wraps at the end of the address space, with a region that ends just below it and one that starts just
above. -/
def wrapped (turns : List Turn) : State :=
  { State.reset with
    pc := 0xFFFE, mem := [(0x0000, 0x12), (0xFFFE, 0xAD), (0xFFFF, 0x34)], agenda := turns
    regions := [⟨0x9000, 0xFFFD, some (.external 0), none, false⟩, ⟨0x0001, 0x00FF, none, some (.external 1), true⟩] }

/-- StepRunsDecodedInstruction, both clauses. -/
theorem witness_StepRunsDecodedInstruction :
    decode [(wrapped []).memByte 0xFFFE, (wrapped []).memByte 0xFFFF, (wrapped []).memByte 0x0000] = .ok (.ldaAbs 0x1234, []) ∧
    (∀ k : Nat, k < (Instr.ldaAbs 0x1234).len → Unmatched (wrapped []) (0xFFFE + BitVec.ofNat 16 k)) ∧
    (wrapped []).agenda = [] ∧ (wrapped [.instruction, .host .reset]).agenda = .instruction :: [.host .reset] := by
  refine ⟨?_, by decide, rfl, rfl⟩
  rw [show (wrapped []).memByte 0xFFFE = 0xAD by decide, show (wrapped []).memByte 0xFFFF = 0x34 by decide,
    show (wrapped []).memByte 0x0000 = 0x12 by decide]
  rfl

/-- A state with something in every field the invariant reads: memory, a region, a countdown, an enabled timer. -/
def busy : State :=
  { threeDevices [] with nmiDelay := 8, pc := 0xA000, timers := [{ timerWith 0x40 9 3 0 with ier := 0x7F }] }

/-- With no turn in the agenda, an instruction step answers a next state. -/
theorem step_answers (s : State) (h : s.agenda = []) : ∃ t, instructionStep s = .next t ∧ step s = .next t := by
  obtain ⟨t, -, hs, -⟩ := instructionStep_kept s
  exact ⟨_, hs, by unfold step; simp only [h]; exact hs⟩

/-- EveryStepKeepsTheInvariant: the invariant holds of `busy`, and it steps. -/
theorem witness_EveryStepKeepsTheInvariant : Inv busy ∧ ∃ t, instructionStep busy = .next t ∧ step busy = .next t :=
  ⟨⟨by decide, by decide, by decide, by decide, by decide, wellSupplied_standard⟩, step_answers busy rfl⟩

/-- ReadOnlyMemoryIsKept: STA $8000 with 0x8000 read-only, a region that does not back it over it. -/
def romStore : State :=
  markReadOnly 0x8000 0x8000 { start 0x55 0 0 0xFF 0x20 [(0x0600, 0x8D), (0x0602, 0x80), (0x8000, 0x99)] with
    regions := [⟨0x8000, 0x8000, none, none, false⟩] }

theorem witness_ReadOnlyMemoryIsKept :
    romStore.isReadOnly 0x8000 = true ∧ (∀ r ∈ romStore.regions, r.covers 0x8000 = true → r.backs = false) ∧
    ∃ t, instructionStep romStore = .next t ∧ step romStore = .next t :=
  ⟨by decide, by decide, step_answers romStore rfl⟩

/-- RequestsStayPending, its clauses: a pending IRQ with I set; a pending NMI; a timer that requests at the boundary with I clear; a
countdown that a length reaches exactly; no request, with the countdown inactive and with one byte left over. -/
theorem witness_RequestsStayPending :
    let s := { withVectors 0x24 with irqPending := true, nmiPending := true }
    let requesting := { withVectors 0x20 with timers := [timerWith 0x00 0 0 0, { timerWith 0x40 9 3 0 with ier := 0x40 }] }
    let quiet := { withVectors 0x20 with timers := [timerWith 0x40 9 3 0] }
    (s.irqPending = true ∧ getFlag .i s.p = true ∧ s.nmiPending = true) ∧
    ((∃ t ∈ requesting.timers, (t.update 4).1 = true) ∧ getFlag .i requesting.p = false) ∧
    (0 < { quiet with nmiDelay := 3 }.nmiDelay ∧ { quiet with nmiDelay := 3 }.nmiDelay ≤ 3) ∧
    ((∀ t ∈ quiet.timers, (t.update 4).1 = false) ∧ quiet.irqPending = false ∧ quiet.nmiPending = false ∧ quiet.nmiDelay = 0 ∧
      3 < { quiet with nmiDelay := 4 }.nmiDelay) := by decide

/-- R120, R276 and R278 by hand: the timer's request of this boundary is served at this boundary. -/
theorem test_timer_request_is_served_at_its_boundary :
    (boundary 4 1 { withVectors 0x20 with timers := [{ timerWith 0x40 9 3 0 with ier := 0x40 }] }).pc = 0x0700 := by decide

/-- BusReadValue and BusWriteEffect, the external device: a script with an answer, and none. -/
theorem witness_externalAnswer :
    (threeDevices [⟨0x0F, [.assertIrq]⟩]).script = ⟨0x0F, [.assertIrq]⟩ :: [] ∧ (threeDevices []).script = [] := by decide

/-- ExecuteIsTheWhileLoop: budgets on each side of zero, with the state the loop ends in; the parameters are as the spec asks (and so for
UndefinedSlotsRunBrk). -/
theorem witness_ExecuteIsTheWhileLoop :
    (0 : Int) ≤ 0 ∧ execute 0 (withVectors 0x20) = .next (withVectors 0x20) ∧ (0 : Int) < 1 ∧
    (match execute 1 (withVectors 0x20) with
      | .next t => t.pc
      | .fault _ => 0
      | .refused _ => 0) = 0x0601 ∧ WellSupplied (withVectors 0x20).params :=
  ⟨by decide, rfl, by decide, by decide, wellSupplied_standard⟩

/-- StoreInstructions: the machine of the reset state has the base values of the encodings tables. -/
theorem witness_StoreInstructions :
    ∀ f ∈ staForms ++ stxForms ++ styForms ++ stzForms, baseCycles State.reset.params f.op = f.base := by decide

/-- DecimalArithmetic: the least and the greatest BCD byte, and what is none. -/
theorem witness_DecimalArithmetic : IsBcd 0x00 ∧ IsBcd 0x99 ∧ ¬ IsBcd 0x0A ∧ ¬ IsBcd 0xA0 := by decide

/-- ReturnsUndoEntries, both clauses, with a stack that wraps inside its page. -/
theorem witness_ReturnsUndoEntries :
    let s := { withVectors 0x20 with sp := 0x00 }
    (∀ k ∈ [0, 255, 254], PlainRam s (stackSlot s.sp k)) ∧ getFlag .u s.p = true ∧ Unmatched s 0xFFFE ∧ Unmatched s 0xFFFF := by decide

/-- BusReadValue: no region, one, two, three (one of them without a callback), and only regions without callback or backing. -/
theorem witness_BusReadValue :
    let s := threeDevices []
    let silent := { State.reset with regions := [⟨0xD000, 0xD000, none, none, false⟩] }
    Unmatched s 0x8400 ∧
    (s.matching 0x8000 = [⟨0x8000, 0x83FF, some (.external 0), none, true⟩]) ∧
    (s.matching 0x82FF = [⟨0x8000, 0x83FF, some (.external 0), none, true⟩, ⟨0x8200, 0x82FF, some (.external 1), some (.external 1),
      false⟩]) ∧
    silent.matching 0xD000 ≠ [] ∧ (∀ r ∈ silent.matching 0xD000, r.reader = none ∧ r.backs = false) ∧
    ({ s with regions := ⟨0, 0xFFFF, none, none, true⟩ :: s.regions }.matching 0x82FF).length = 3 := by decide

/-- BusWriteEffect: a byte that is not read-only, a read-only byte with and without a backing region, one region with a callback. -/
theorem witness_BusWriteEffect :
    let s := markReadOnly 0x8000 0x9000 (threeDevices [])
    s.isReadOnly 0x9001 = false ∧
    (s.isReadOnly 0x9000 = true ∧ ∀ r ∈ s.matching 0x9000, r.backs = false) ∧
    (s.isReadOnly 0x8000 = true ∧ ∃ r ∈ s.matching 0x8000, r.backs = true) ∧
    s.matching 0x90FF = [⟨0x9000, 0x90FF, some (.external 2), some (.external 2), false⟩] := by decide

/-- MemoryIsItsBytes: canonical memories with a byte at each end of the address space. -/
theorem witness_MemoryIsItsBytes :
    Memory.wf [(0, 0x01), (0xFFFF, 0x80)] ∧ 65535 < 65536 ∧ ¬ Memory.wf [(0, 0x00)] ∧ ¬ Memory.wf [(5, 0x01), (5, 0x02)] := by decide

/-- BootOperations: the last free place of the device table, and none; an image that ends at the last address. -/
theorem witness_BootOperations :
    let full := fun n : Nat => { State.reset with regions := List.replicate n ⟨0, 0, none, none, false⟩ }
    (full 31).regions.length < 32 ∧ 32 ≤ (full 32).regions.length ∧
    (loadImage 0xFFFF [0x5A] State.reset).memByte 0xFFFF = 0x5A ∧ [0x5A#8].length ≤ 65536 ∧
    (∀ k, k < [0x5A#8].length → (0x0000 : Addr) ≠ 0xFFFF + BitVec.ofNat 16 k) := by
  refine ⟨?_, ?_, by decide, by decide, by decide⟩ <;> simp

/-- BootOperations, InterruptInputs and TimerResetInitialiseReload: a state whose agenda starts with the host operation, for any. -/
theorem witness_hostTurn (op : HostOp) (turns : List Turn) :
    { State.reset with agenda := .host op :: turns }.agenda = .host op :: turns := rfl

/-- InterruptInputs: the last instance of the reset state. -/
theorem witness_InterruptInputs : 1 < State.reset.timers.length := by decide

/-- Both requests pending, a stack that wraps, and a region beside the stack page. -/
def bothPending : State :=
  { withVectors 0x20 with
    sp := 0x02, irqPending := true, nmiPending := true, regions := [⟨0x0200, 0xFFF9, some (.external 0), none, false⟩] }

/-- IrqGateAtOwnBoundary and IrqThenNmiAtOneBoundary, with a stack that wraps. -/
theorem witness_IrqThenNmiAtOneBoundary :
    bothPending.irqPending = true ∧ bothPending.nmiPending = true ∧ getFlag .i bothPending.p = false ∧
    (∀ k : Nat, k ∈ [0, 255, 254, 253, 252, 251] → PlainRam bothPending (stackSlot bothPending.sp k)) ∧
    (∀ v ∈ [0xFFFA#16, 0xFFFB#16, 0xFFFE#16, 0xFFFF#16], Unmatched bothPending v) := by
  refine ⟨rfl, rfl, by decide, fun k hk => ?_, fun v hv => ?_⟩
  · simp only [List.mem_cons, List.not_mem_nil, or_false] at hk
    rcases hk with rfl | rfl | rfl | rfl | rfl | rfl <;> decide
  · simp only [List.mem_cons, List.not_mem_nil, or_false] at hv
    rcases hv with rfl | rfl | rfl | rfl <;> decide

/-- DelayedNmiCountdown, its three clauses at their boundaries. -/
theorem witness_DelayedNmiCountdown :
    let s := fun n : Nat => { State.reset with nmiDelay := n }
    (s 0).nmiDelay = 0 ∧ (0 < (s 3).nmiDelay ∧ (s 3).nmiDelay ≤ 3) ∧ 2 < (s 3).nmiDelay := by decide

/-- CpuResetAndContinue: the two turns. -/
theorem witness_CpuResetAndContinue :
    let s := { withVectors 0x20 with agenda := [.host .reset, .host (.resume 0x1234 1 2 3 4 0x00)] }
    s.agenda = .host .reset :: [.host (.resume 0x1234 1 2 3 4 0x00)] ∧
    ({ s with agenda := [.host (.resume 0x1234 1 2 3 4 0x00)] }).agenda = .host (.resume 0x1234 1 2 3 4 0x00) :: [] := by decide

/-- Timer1Continuous: the counter reaching zero, and passing it. -/
theorem witness_Timer1Continuous :
    let t := timerWith 0xC0 0 3 0
    t.acr.getLsbD 6 = true ∧ 3 ≤ t.counter1 ∧ t.counter1 < 4 := by decide

/-- Timer1OneShot and Timer2CountsAndWraps: the modes. -/
theorem witness_Timer1OneShot :
    (timerWith 0x20 9 3 5).acr.getLsbD 6 = false ∧ (timerWith 0x20 9 3 5).acr.getLsbD 5 = true ∧
    (timerWith 0x00 9 3 5).acr.getLsbD 5 = false := by decide

/-- TimerRequestIsALevel: a flag set and enabled; a state with a requesting timer, and one with none. -/
theorem witness_TimerRequestIsALevel :
    let t := { timerWith 0x00 0 0 0 with ier := 0x40, ifr := 0x40 }
    t.ier &&& t.ifr &&& 0x7F ≠ 0 ∧ (∃ u ∈ [t], (u.update 0).1 = true) ∧ (∀ u ∈ State.reset.timers, (u.update 0).1 = false) := by decide

/-- TimerOnTheBus: an instance at the highest base, its last address. -/
theorem witness_TimerOnTheBus :
    let s := (timerInitialise 1 0xFFF0 State.reset).2
    s.timers[1]? = some (Timer.fresh (some 0xFFF0)) ∧ (0xFFF0 : Addr).toNat ≤ 0xFFF0 ∧ (0xFFF0 : Addr).toNat ≤ (0xFFFF : Addr).toNat ∧
    (0xFFFF : Addr).toNat < (0xFFF0 : Addr).toNat + 16 ∧ s.matching 0xFFFF = [timerRegion 1 0xFFF0] := by decide

/-- TimerResetInitialiseReload: the last instance of the reset state and the first index past it, room in the table and none, the highest
base R312 allows, an instance at a base and one without. -/
theorem witness_TimerResetInitialiseReload :
    1 < State.reset.timers.length ∧ ¬ 2 < State.reset.timers.length ∧ State.reset.regions.length < 32 ∧
    32 ≤ { State.reset with regions := List.replicate 32 ⟨0, 0, none, none, false⟩ }.regions.length ∧ (0xFFF0 : Addr).toNat ≤ 0xFFF0 ∧
    (Timer.fresh (some 0xC000)).base = some 0xC000 ∧ (Timer.fresh none).base = none := by decide

/-- The word of a table row placed where the step fetches (log 11): INX (0xE8, R192) is the first instruction after reset. -/
theorem test_first_step_after_reset :
    (match step (State.reset.withFetchWord 8 0xE8) with
      | .next t => some (t.x, t.pc)
      | _ => none) = some (0x01, 0x0001) := by decide

end Sys2Proof.Tests
end

/-! PROOFS. The invariant: an instruction keeps it by what `Kept` and `Latched` say of it, the host's operations one by one. -/

namespace Sys2Proof.Machine

/-- A turn of the host, first on the agenda, is the whole step (R9). -/
theorem step_hostTurn {s : State} {op : HostOp} {turns : List Turn} (h : s.agenda = .host op :: turns) :
    step s = .next (runHostOp op (s.setAgenda turns)) := by
  simp only [step, h]

/-- Every step is an instruction step or a host operation, in the state with the agenda advanced. -/
theorem step_cases {s t : State} (h : step s = .next t) :
    ∃ turns, instructionStep (s.setAgenda turns) = .next t ∨ ∃ op, t = runHostOp op (s.setAgenda turns) := by
  unfold step at h
  split at h
  · rename_i hs
    refine ⟨[], .inl ?_⟩
    rwa [← hs, State.setAgenda_self]
  · rename_i turns _
    exact ⟨turns, .inl h⟩
  · rename_i op turns _
    exact ⟨turns, .inr ⟨op, by cases h; rfl⟩⟩

/-! ### The invariant through an instruction and its boundary -/

/-- The countdown stays in range where it is as it was or starts again. -/
theorem Latched.delay_le {s t : State} (h : Latched s t) (hs : s.nmiDelay ≤ Config.delayedNmiStart) :
    t.nmiDelay ≤ Config.delayedNmiStart := by
  rcases h.delay with e | e
  · rwa [e]
  · exact e.le

/-- The invariant survives whatever the CPU cannot touch being kept, with the countdown in range. -/
theorem Inv.of_kept {s t : State} (h : Inv s) (k : Kept s t) (hd : t.nmiDelay ≤ Config.delayedNmiStart) : Inv t where
  memory := k.memory h.memory
  unused := k.unused h.unused
  delay := hd
  table := by rw [k.regions]; exact h.table
  enables := k.enables h.enables
  parameters := by rw [k.params]; exact h.parameters

theorem Inv.of_reaches {s t : State} (h : Inv s) (k : Reaches s t) : Inv t := h.of_kept k.1 (k.2.delay_le h.delay)

theorem countDown_nmiDelay_le (len : Nat) (s : State) : (countDown len s).nmiDelay ≤ s.nmiDelay := by
  unfold countDown
  split
  · split
    · exact Nat.zero_le _
    · exact Nat.sub_le ..
  · exact le_rfl

theorem Inv.updateTimers {s : State} (h : Inv s) (cycles : Nat) : Inv (updateTimers cycles s) :=
  h.of_kept (kept_updateTimers cycles s) (by rw [updateTimers_nmiDelay]; exact h.delay)

theorem Inv.countDown {s : State} (h : Inv s) (len : Nat) : Inv (countDown len s) :=
  h.of_kept (kept_countDown len s) ((countDown_nmiDelay_le len s).trans h.delay)

theorem Inv.irqGate {s : State} (h : Inv s) : Inv (irqGate s) := by
  refine h.of_kept (kept_irqGate s) ?_
  unfold Machine.irqGate
  split
  · exact (reaches_enterInterrupt false irqVector s).2.delay_le h.delay
  · exact h.delay

theorem Inv.nmiTest {s : State} (h : Inv s) : Inv (nmiTest s) := by
  refine h.of_kept (kept_nmiTest s) ?_
  unfold Machine.nmiTest
  split
  · exact (reaches_enterInterrupt false nmiVector s).2.delay_le h.delay
  · exact h.delay

theorem Inv.boundary {s : State} (h : Inv s) (cycles len : Nat) : Inv (boundary cycles len s) :=
  ((h.updateTimers cycles).countDown len).irqGate.nmiTest

/-- Fetch, meaning and boundary each keep the invariant. -/
theorem Inv.instructionStep {s t : State} (h : Inv s) (hs : instructionStep s = .next t) : Inv t := by
  obtain ⟨u, hu, hr⟩ := exec_reaches (fetch s).1 (fetch s).2
  unfold Machine.instructionStep at hs
  dsimp only at hs
  rw [hu] at hs
  cases hs
  exact ((h.of_reaches (reaches_fetch s)).of_reaches hr).boundary ..

/-! ### The invariant through the host's operations -/

theorem Inv.setAgenda {s : State} (h : Inv s) (turns : List Turn) : Inv (s.setAgenda turns) := { h with }

theorem Inv.setTimers {s : State} (h : Inv s) {ts : List Timer} (ht : ∀ t ∈ ts, t.ier.getLsbD 7 = false) :
    Inv (s.setTimers ts) := { h with enables := ht }

theorem Inv.cpuReset {s : State} (h : Inv s) : Inv (cpuReset s) := by
  have hread := h.of_reaches (reaches_busReadWord resetVector s)
  unfold Machine.cpuReset
  generalize busReadWord resetVector s = target at hread
  exact { hread with
    unused := show getFlag .u 0x20 = true by decide
    delay := Nat.zero_le _ }

theorem Inv.continueFrom {s : State} (h : Inv s) (pc : Addr) (a x y sp psw : Byte) : Inv (continueFrom pc a x y sp psw s) :=
  { h with unused := getFlag_statusFrom .u psw }

theorem Inv.runInput {s : State} (h : Inv s) (c : CoreInput) : Inv (runInput c s) :=
  h.of_reaches ⟨kept_runInput c s, (runInput_onlyDevices c s).latched⟩

theorem Inv.registerRegion {s : State} (h : Inv s) (r : Region) : Inv (registerRegion r s).2 := by
  unfold Machine.registerRegion
  split
  · rename_i hroom
    exact { h with table := by simpa using hroom }
  · exact h

theorem Inv.markReadOnly {s : State} (h : Inv s) (first last : Addr) : Inv (markReadOnly first last s) := { h with }

theorem Inv.loadImage {s : State} (h : Inv s) (start : Addr) (bytes : List Byte) : Inv (loadImage start bytes s) := by
  have hm := loadImage_wf bytes start s h.memory
  rw [loadImage_fields]
  exact { h with memory := hm }

/-- A timer just reset has no interrupt enabled. -/
theorem fresh_ier_bit7 (base : Option Addr) : (Timer.fresh base).ier.getLsbD 7 = false := BitVec.getLsbD_zero

theorem Inv.timerInitialise {s : State} (h : Inv s) (i : Nat) (address : Addr) : Inv (timerInitialise i address s).2 := by
  refine (h.setTimers fun t ht => ?_).registerRegion _
  split at ht
  · rcases List.mem_or_eq_of_mem_set ht with ht | rfl
    · exact h.enables t ht
    · exact fresh_ier_bit7 _
  · rcases List.mem_append.1 ht with ht | ht
    · exact h.enables t ht
    · rw [List.mem_singleton.1 ht]; exact fresh_ier_bit7 _

theorem Inv.timerReset {s : State} (h : Inv s) (address : Addr) : Inv (timerReset address s) := by
  refine h.setTimers fun t ht => ?_
  obtain ⟨u, hu, rfl⟩ := List.mem_map.1 ht
  split
  · exact fresh_ier_bit7 _
  · exact h.enables u hu

/-- A reload goes through the set and clear rule of IER, which leaves bit 7 (R334). -/
theorem reloadTimer_ier_bit7 (q : Params) (m : Memory) (t : Timer) : (reloadTimer q m t).ier.getLsbD 7 = t.ier.getLsbD 7 := by
  unfold reloadTimer
  split
  · rw [reloadFrom_allTimerRegs]
    exact ierAfterWrite_bit7 ..
  · rfl

theorem Inv.timerReload {s : State} (h : Inv s) : Inv (timerReload s) := by
  refine h.setTimers fun t ht => ?_
  obtain ⟨u, hu, rfl⟩ := List.mem_map.1 ht
  rw [reloadTimer_ier_bit7]
  exact h.enables u hu

theorem Inv.runHostOp {s : State} (h : Inv s) (op : HostOp) : Inv (runHostOp op s) := by
  cases op with
  | reset => exact h.cpuReset
  | resume pc a x y sp psw => exact h.continueFrom pc a x y sp psw
  | input c => exact h.runInput c
  | register r => exact h.registerRegion r
  | markReadOnly first last => exact h.markReadOnly first last
  | loadImage start bytes => exact h.loadImage start bytes
  | timerInitialise i address => exact h.timerInitialise i address
  | timerReset address => exact h.timerReset address
  | timerReload => exact h.timerReload

/-- Settles O9: an instruction keeps the invariant by what it reaches, a turn of the host operation by operation. -/
theorem everyStepKeepsTheInvariant : Obligations.EveryStepKeepsTheInvariant := by
  unfold Obligations.EveryStepKeepsTheInvariant
  intro s t h hstep
  obtain ⟨turns, hi | ⟨op, rfl⟩⟩ := step_cases hstep
  · exact (h.setAgenda turns).instructionStep hi
  · exact (h.setAgenda turns).runHostOp op

/-- Settles O10, field by field of the reset state. -/
theorem resetMeetsTheInvariant : Obligations.ResetMeetsTheInvariant where
  memory := by decide
  unused := by decide
  delay := by decide
  table := by decide
  enables := by decide
  parameters := wellSupplied_standard

end Sys2Proof.Machine

/-! PROOFS. CPU reset and continue, the boot operations, and the timers' reset, initialise and reload, as operations and as turns of
the host. -/

namespace Sys2Proof.Machine

/-! ### CPU reset and continue -/

/-- CPU reset, with its two Bus reads on the state with another agenda (the Bus does not look at it). -/
theorem cpuReset_setAgenda (turns : List Turn) (s : State) :
    cpuReset (s.setAgenda turns) =
      let lo := busRead 0xFFFC s
      let hi := busRead 0xFFFD lo.2
      { hi.2 with pc := addrOf lo.1 hi.1, sp := 0xFF, p := 0x20, irqPending := false, nmiPending := false,
                  nmiDelay := 0, agenda := turns } := by
  have hsecond : (0xFFFC : Addr) + 1 = 0xFFFD := by decide
  unfold cpuReset resetVector
  simp only [busReadWord_eq, busRead_setAgenda, hsecond]
  generalize busRead 0xFFFC s = lo
  generalize busRead 0xFFFD lo.2 = hi
  rfl

/-- The reset state has no region and nothing in memory, so that its reset vector reads as 0x0000 (R39; log 1). -/
theorem cpuReset_reset : cpuReset State.reset = State.reset := by
  have hread : ∀ addr, busRead addr State.reset = (0x00, State.reset) := fun _ => rfl
  unfold cpuReset
  simp only [busReadWord_eq, hread]
  rfl

/-- Settles O52: a turn of the host runs its operation; the two Bus reads of a reset do not depend on the agenda. -/
theorem cpuResetAndContinue : Obligations.CpuResetAndContinue := by
  unfold Obligations.CpuResetAndContinue
  refine ⟨fun s turns h => ?_, cpuReset_reset, fun s turns pc a x y sp psw h => ?_, fun s => rfl⟩
  · exact (step_hostTurn h).trans (congrArg Host.Outcome.next (cpuReset_setAgenda turns s))
  · exact ⟨statusFrom psw, fun f => getFlag_statusFrom f psw, step_hostTurn h⟩

/-! ### Boot -/

theorem registerRegion_room {s : State} (r : Region) (h : s.regions.length < 32) :
    registerRegion r s = (.success, s.setRegions (s.regions ++ [r])) := if_pos h

theorem registerRegion_full {s : State} (r : Region) (h : 32 ≤ s.regions.length) : registerRegion r s = (.deviceTableFull, s) :=
  if_neg (Nat.not_lt.2 h)

/-- The bits of a range, both ends inclusive (R60, D22). -/
theorem testBit_rangeBits (first last : Addr) (n : Nat) :
    (rangeBits first last).testBit n = decide (first.toNat ≤ n ∧ n ≤ last.toNat) := by
  unfold rangeBits
  rw [Nat.testBit_shiftLeft, Nat.one_shiftLeft, Nat.testBit_two_pow_sub_one, ← Bool.decide_and, decide_eq_decide]
  omega

theorem markReadOnly_isReadOnly (first last addr : Addr) (s : State) :
    (markReadOnly first last s).isReadOnly addr
      = (s.isReadOnly addr || decide (first.toNat ≤ addr.toNat ∧ addr.toNat ≤ last.toNat)) := by
  rw [← testBit_rangeBits]
  exact Nat.testBit_or ..

theorem add_one_add_ofNat (a : Addr) (k : Nat) : a + 1 + BitVec.ofNat 16 k = a + BitVec.ofNat 16 (k + 1) := by
  rw [Nat.add_comm k 1, BitVec.ofNat_add, BitVec.add_assoc]
  rfl

/-- An address that no byte of the image goes to keeps its byte. -/
theorem loadImage_memByte_other {start addr : Addr} {bytes : List Byte} (s : State)
    (h : ∀ k, k < bytes.length → addr ≠ start + BitVec.ofNat 16 k) :
    (loadImage start bytes s).memByte addr = s.memByte addr := by
  induction bytes generalizing start s with
  | nil => rfl
  | cons b bytes ih =>
    have hstart : addr ≠ start := by simpa using h 0 (Nat.zero_lt_succ _)
    refine (ih _ fun k hk => ?_).trans (State.memByte_memStore_other b s hstart)
    rw [add_one_add_ofNat]
    exact h (k + 1) (Nat.succ_lt_succ hk)

/-- An image no longer than memory puts each of its bytes at its address: no later byte reaches the same address. -/
theorem loadImage_memByte (start : Addr) {bytes : List Byte} (s : State) (hlen : bytes.length ≤ 65536) (k : Nat)
    (hk : k < bytes.length) : (loadImage start bytes s).memByte (start + BitVec.ofNat 16 k) = bytes[k] := by
  induction bytes generalizing start s k with
  | nil => cases hk
  | cons b bytes ih =>
    rw [List.length_cons] at hlen hk
    cases k with
    | zero =>
      have hlater : ∀ j, j < bytes.length → start ≠ start + 1 + BitVec.ofNat 16 j := by
        intro j hj he
        have := congrArg BitVec.toNat he
        rw [add_one_add_ofNat, BitVec.toNat_add, BitVec.toNat_ofNat] at this
        omega
      rw [BitVec.add_zero]
      exact (loadImage_memByte_other _ hlater).trans (State.memByte_memStore_same start b s)
    | succ k =>
      rw [← add_one_add_ofNat]
      exact ih _ _ (by omega) k (by omega)

/-- Settles O45, by induction on the image; the marks of a range bit by bit. -/
theorem bootOperations : Obligations.BootOperations := by
  unfold Obligations.BootOperations
  refine ⟨fun r s h => registerRegion_room r h, fun r s h => registerRegion_full r h, fun first last addr s => ?_,
    fun start bytes s hlen => ⟨loadImage_memByte start s hlen, fun addr => loadImage_memByte_other s, loadImage_fields bytes start s⟩,
    fun s turns r h => step_hostTurn h, fun s turns first last h => step_hostTurn h, fun s turns start bytes h => step_hostTurn h⟩
  exact ⟨markReadOnly_isReadOnly first last addr s, rfl⟩

/-! ### The timers -/

theorem fresh_reg (b : Option Addr) (r : TimerReg) : (Timer.fresh b).reg r = 0x00 := by cases r <;> rfl

theorem timerReset_timers (address : Addr) (s : State) {i : Nat} (hi : i < s.timers.length) :
    (timerReset address s).timers[i]? =
      if s.timers[i].base = some address then some (Timer.fresh (some address)) else some s.timers[i] := by
  unfold timerReset
  rw [State.setTimers_timers, List.getElem?_map, List.getElem?_eq_getElem hi, Option.map_some]
  split
  · rename_i h; rw [h]
  · rfl

/-- `initialise` is a registration in the state with the timer in place. -/
theorem timerInitialise_eq (i : Nat) (address : Addr) (s : State) :
    timerInitialise i address s =
      registerRegion (timerRegion (if i < s.timers.length then i else s.timers.length) address)
        (s.setTimers (if i < s.timers.length then s.timers.set i (Timer.fresh (some address))
          else s.timers ++ [Timer.fresh (some address)])) := by
  unfold timerInitialise
  by_cases h : i < s.timers.length
  · simp only [Nat.min_eq_left h.le, if_pos h]
  · simp only [Nat.min_eq_right (Nat.not_lt.1 h), lt_irrefl, if_neg h, if_false]

theorem timerRegion_last_toNat {address : Addr} (h : address.toNat ≤ 0xFFF0) : (address + 15).toNat = address.toNat + 15 := by
  rw [BitVec.toNat_add]
  exact Nat.mod_eq_of_lt (by show address.toNat + 15 < 65536; omega)

theorem timerReload_timers (s : State) {i : Nat} (hi : i < s.timers.length) :
    (timerReload s).timers[i]? = some (reloadTimer s.params s.mem s.timers[i]) := by
  unfold timerReload
  rw [State.setTimers_timers, List.getElem?_map, List.getElem?_eq_getElem hi, Option.map_some]

/-- The set and clear rule of IER (R334), bit by bit. -/
theorem ierAfterWrite_getLsbD (ier v : Byte) {k : Nat} (hk : k < 7) :
    (ierAfterWrite ier v).getLsbD k = if v.getLsbD k = true then v.getLsbD 7 else ier.getLsbD k := by
  have hmask : BitVec.getLsbD (0x7F : Byte) k = true := by interval_cases k <;> decide
  have hnamed : (v &&& 0x7F).getLsbD k = v.getLsbD k := by rw [BitVec.getLsbD_and, hmask, Bool.and_true]
  unfold ierAfterWrite
  by_cases hset : v.getLsbD 7 = true
  · rw [if_pos hset, BitVec.getLsbD_or, hnamed, hset]
    cases v.getLsbD k <;> simp
  · rw [if_neg hset, BitVec.getLsbD_and, BitVec.getLsbD_not, hnamed, decide_eq_true (by omega), Bool.eq_false_iff.2 hset]
    cases v.getLsbD k <;> simp

/-- What `RecomputeOut` makes of an output latch (R340), bit by bit. -/
theorem recomputedLatch_getLsbD (v d : Byte) (latch : BitVec 16) (k : Nat) :
    (((v &&& ~~~d) ||| (lowByte latch &&& d)).setWidth 16).getLsbD k
      = (decide (k < 8) && if d.getLsbD k = true then latch.getLsbD k else v.getLsbD k) := by
  have hlow : (lowByte latch).getLsbD k = (decide (k < 8) && latch.getLsbD k) := by simp [lowByte]
  rw [BitVec.getLsbD_setWidth, BitVec.getLsbD_or, BitVec.getLsbD_and, BitVec.getLsbD_and, BitVec.getLsbD_not, hlow]
  by_cases hk : k < 8
  · rw [decide_eq_true hk, decide_eq_true (by omega)]
    cases d.getLsbD k <;> simp
  · simp [hk]

theorem reloadTimer_at_base {q : Params} {m : Memory} {t : Timer} {base : Addr} (h : t.base = some base) :
    reloadTimer q m t = reloadFrom q m base allTimerRegs t := by
  simp only [reloadTimer, h]

/-- Settles O60: `initialise` by the two cases of the index, `reload` from the record equation of its sixteen writes. -/
theorem timerResetInitialiseReload : Obligations.TimerResetInitialiseReload := by
  unfold Obligations.TimerResetInitialiseReload
  refine ⟨fun b r => ⟨fresh_reg b r, rfl, rfl, rfl, rfl, rfl⟩,
    fun address s => ⟨rfl, List.length_map .., fun i hi => timerReset_timers address s hi⟩, fun i address s => ?_,
    fun s => ⟨rfl, List.length_map .., fun i hi => timerReload_timers s hi⟩, fun q m t h => by simp only [reloadTimer, h],
    fun q m t base h => ?_,
    fun s turns => ⟨fun i address h => step_hostTurn h, fun address h => step_hostTurn h, fun h => step_hostTurn h⟩⟩
  · rw [timerInitialise_eq]
    exact ⟨fun h => registerRegion_room _ h, fun h => registerRegion_full _ h, timerRegion_last_toNat⟩
  · rw [reloadTimer_at_base h, reloadFrom_allTimerRegs]
    exact ⟨rfl, rfl, rfl, rfl, rfl, rfl, rfl, rfl, rfl, rfl, rfl, rfl, rfl, rfl, fun k hk => ierAfterWrite_getLsbD _ _ hk,
      ierAfterWrite_bit7 .., rfl, rfl, rfl, recomputedLatch_getLsbD _ _ _, recomputedLatch_getLsbD _ _ _⟩

end Sys2Proof.Machine

/-! PROOFS. The cycles of an instruction in plain arithmetic, and the undefined slots. -/

namespace Sys2Proof.Machine

/-! ### Pages -/

theorem differentPage_eq (a b : Addr) : differentPage a b = decide (b.toNat / 256 ≠ a.toNat / 256) := by
  unfold differentPage
  rw [Bool.eq_iff_iff, bne_iff_ne, decide_eq_true_iff, Ne, ← BitVec.toNat_inj, highByte_toNat, highByte_toNat, eq_comm]

/-- Adding an index crosses a page when the sum modulo 65536 has another high byte (R125). -/
theorem indexed_crossed (base : Addr) (index : Byte) (s : State) :
    (indexed base index s).crossed = decide ((base.toNat + index.toNat) % 65536 / 256 ≠ base.toNat / 256) := by
  have hea : (base + index.setWidth 16).toNat = (base.toNat + index.toNat) % 65536 := by
    rw [BitVec.toNat_add, BitVec.toNat_setWidth_of_le (by decide)]
  rw [← hea]
  exact differentPage_eq ..

/-- The target of a branch, from the signed displacement (R143). -/
theorem branchTarget_toNat (d : Byte) (pc : Addr) :
    ((branchTarget d pc).toNat : Int) = ((pc.toNat : Int) + d.toInt) % 65536 := by
  have hd : ((signExtend16 d).toNat : Int) = d.toInt % 65536 := by
    rw [signExtend16, ← BitVec.toInt_signExtend_of_le (by decide : 8 ≤ 16), BitVec.toInt_eq_toNat_cond]
    have := (d.signExtend 16).isLt
    split <;> omega
  unfold branchTarget
  rw [BitVec.toNat_add]
  omega

/-! ### Penalties -/

theorem indexPenalty_abx (base : Nat) (w : Addr) (s : State) : indexPenalty base (.abx w) s =
    if base = 4 ∧ (w.toNat + s.x.toNat) % 65536 / 256 ≠ w.toNat / 256 then 1 else 0 := by
  unfold indexPenalty resolve
  simp only [indexed_crossed, Bool.and_eq_true, decide_eq_true_iff]

theorem indexPenalty_aby (base : Nat) (w : Addr) (s : State) : indexPenalty base (.aby w) s =
    if base = 4 ∧ (w.toNat + s.y.toNat) % 65536 / 256 ≠ w.toNat / 256 then 1 else 0 := by
  unfold indexPenalty resolve
  simp only [indexed_crossed, Bool.and_eq_true, decide_eq_true_iff]

/-- A zero-page pointer is two Bus reads in page zero, the second address wrapping (R139, R140, R142). -/
theorem zeroPagePointer_eq (b : Byte) (s : State) : zeroPagePointer b s =
    let lo := busRead (BitVec.ofNat 16 b.toNat) s
    let hi := busRead (BitVec.ofNat 16 ((b.toNat + 1) % 256)) lo.2
    (addrOf lo.1 hi.1, hi.2) := by
  have hzero : ∀ c : Byte, zeroPage c = BitVec.ofNat 16 c.toNat := fun c => (BitVec.ofNat_toNat 16 c).symm
  unfold zeroPagePointer
  rw [hzero, hzero, BitVec.toNat_add]
  rfl

theorem indexPenalty_izy (base : Nat) (b : Byte) (s : State) : indexPenalty base (.izy b) s =
    let lo := busRead (BitVec.ofNat 16 b.toNat) s
    let hi := busRead (BitVec.ofNat 16 ((b.toNat + 1) % 256)) lo.2
    if base = 5 ∧ (256 * hi.1.toNat + lo.1.toNat + s.y.toNat) % 65536 / 256 ≠ hi.1.toNat then 1 else 0 := by
  have hpage : ∀ lo hi : Byte, (256 * hi.toNat + lo.toNat) / 256 = hi.toNat := fun lo hi => by
    have := lo.isLt
    omega
  unfold indexPenalty resolve
  simp only [zeroPagePointer_eq, indexed_crossed, addrOf_toNat, hpage, Bool.and_eq_true, decide_eq_true_iff]

theorem branchPenalty_eq (c : Cond) (d : Byte) (s : State) : branchPenalty c d s =
    if condHolds c s.p = true then
      (if ((s.pc.toNat : Int) + d.toInt) % 65536 / 256 ≠ (s.pc.toNat : Int) / 256 then 2 else 1)
    else 0 := by
  unfold branchPenalty
  rw [differentPage_eq, ← branchTarget_toNat]
  norm_cast
  simp only [decide_eq_true_iff]
  split
  · split <;> rfl
  · rfl

/-- Settles O17: the penalty of each operand form. -/
theorem cyclesOfAnInstruction : Obligations.CyclesOfAnInstruction := by
  unfold Obligations.CyclesOfAnInstruction
  intro i s
  unfold cyclesOf
  congr 1
  cases i.shape with
  | memory o =>
    cases o with
    | abx w => exact indexPenalty_abx ..
    | aby w => exact indexPenalty_aby ..
    | izy b => exact indexPenalty_izy ..
    | _ => rfl
  | relative c d => exact branchPenalty_eq c d s
  | _ => rfl

/-! ### Undefined slots -/

/-- Each undefined slot decodes from its byte as an instruction without operand, has the default base value of BRK and has its meaning
(R97, R261). -/
theorem undefinedSlots_rows : ∀ row ∈ undefinedSlots, decode [row.2] = .ok (row.1, []) ∧ row.1.shape = .implied ∧
    defaultBaseCycles row.2 = defaultBaseCycles 0x00 ∧ ∀ s, exec row.1 s = exec .brk s := by
  simp only [undefinedSlots, undefinedLow, undefinedMid, undefinedHigh, List.cons_append, List.nil_append, List.forall_mem_cons]
  repeat refine And.intro ⟨rfl, rfl, rfl, fun _ => rfl⟩ ?_
  exact List.forall_mem_nil _

theorem cyclesOf_implied {i : Instr} (h : i.shape = .implied) (s : State) : cyclesOf i s = baseCycles s.params i.opcode := by
  simp only [cyclesOf, h, Nat.add_zero]

/-- Settles O5, row by row of R97's list. -/
theorem undefinedSlotsRunBrk : Obligations.UndefinedSlotsRunBrk := by
  unfold Obligations.UndefinedSlotsRunBrk
  refine ⟨rfl, fun row hrow => ?_, rfl, rfl, rfl⟩
  obtain ⟨hdecode, hshape, hbase, hexec⟩ := undefinedSlots_rows row hrow
  have hmode : row.1.mode = .imp := by rw [Instr.mode, hshape]; rfl
  have hopcode : row.1.opcode = row.2 := (decode_encoding hdecode).2
  refine ⟨encodedAs_intro hdecode hmode (by rw [Instr.len, hmode]; rfl) rfl hbase, fun s => ⟨⟨_, hexec s, rfl⟩, fun hs => ?_⟩⟩
  rw [cyclesOf_implied hshape, cyclesOf_implied rfl, hopcode]
  exact hs.slots row hrow

end Sys2Proof.Machine

/-! PROOFS. ADC and SBC, binary and decimal, and the default decimal functions. -/

namespace Sys2Proof.Machine

/-! ### The adder -/

theorem and_0x80_ne_zero (v : Byte) : ((v &&& 0x80) != 0) = v.getLsbD 7 := by
  have hmask : (0x80 : Byte) = BitVec.twoPow 8 7 := by decide
  rw [hmask, BitVec.and_twoPow]
  cases v.getLsbD 7 <;> decide

/-- The bit formula of R182: both operands' signs differ from the result's. -/
theorem adcBin_overflow_bits (a m : Byte) (c : Bool) :
    (adcBin a m c).overflow = ((a.getLsbD 7 ^^ (adcBin a m c).result.getLsbD 7) && (m.getLsbD 7 ^^ (adcBin a m c).result.getLsbD 7)) := by
  unfold adcBin
  dsimp only
  rw [and_0x80_ne_zero, BitVec.getLsbD_and, BitVec.getLsbD_xor, BitVec.getLsbD_xor]

theorem adcBin_result_toNat (a m : Byte) (c : Bool) :
    (adcBin a m c).result.toNat = (a.toNat + m.toNat + c.toNat) % 256 := BitVec.toNat_ofNat ..

/-- A byte read as a signed number, by its bit 7. -/
theorem toInt_eq_bit7 (v : Byte) : v.toInt = if v.getLsbD 7 = true then (v.toNat : Int) - 256 else v.toNat := by
  rw [bit7_eq, BitVec.toInt_eq_toNat_cond]
  simp only [decide_eq_true_iff]
  split <;> split <;> omega

/-- Overflow is the signed sum being out of range (R182). -/
theorem adcBin_overflow_signed (a m : Byte) (c : Bool) :
    (adcBin a m c).overflow = decide (a.toInt + m.toInt + c.toNat < -128 ∨ 127 < a.toInt + m.toInt + c.toNat) := by
  have ha := a.isLt
  have hm := m.isLt
  have hc := c.toNat_le
  have hr := adcBin_result_toNat a m c
  rw [adcBin_overflow_bits, toInt_eq_bit7, toInt_eq_bit7, bit7_eq, bit7_eq, bit7_eq, hr, Bool.eq_iff_iff]
  simp only [Bool.and_eq_true, Bool.xor_iff_ne, ne_eq, decide_eq_decide, decide_eq_true_iff]
  split <;> split <;> omega

/-! ### ADC -/

/-- ADC's sum, binary or decimal, in plain arithmetic (R181, R183, D20). -/
theorem adcSum_eq (dec : DecimalFn) (a m : Byte) (c d : Bool) :
    adcSum dec a m c d =
      { result := if d = true then (dec a m c).1 else BitVec.ofNat 8 ((a.toNat + m.toNat + c.toNat) % 256)
        carry := if d = true then (dec a m c).2 else decide (a.toNat + m.toNat + c.toNat > 255)
        overflow := (adcBin a m c).overflow } := by
  have hresult : (adcBin a m c).result = BitVec.ofNat 8 ((a.toNat + m.toNat + c.toNat) % 256) := by
    rw [← adcBin_result_toNat, BitVec.ofNat_toNat, BitVec.setWidth_eq]
  cases d with
  | true => rfl
  | false => exact congrArg (fun r => Sum.mk r _ _) hresult

/-- The operand's Bus reads change neither A nor C nor D, so that ADC adds the A and C before them. -/
theorem adc_eq (src : Source) (s : State) :
    adc src s =
      let got := readSource src s
      let sum := adcSum (decAdc s.params) s.a got.1 (getFlag .c s.p) (getFlag .d s.p)
      (got.2.setA sum.result).setP (putSum sum got.2.p) := by
  have hdev := readSource_onlyDevices src s
  unfold adc
  dsimp only
  rw [hdev.a, hdev.flags .c (by decide), hdev.flags .d (by decide)]

/-- Every form of ADC: its encoding, and its meaning as ADC of its source. -/
theorem adcForms_rows : ∀ f ∈ adcForms, ∀ b1 b2, f.Encoded b1 b2 ∧ ∀ s, exec (f.instr b1 b2) s = .next (adc (f.source b1 b2) s) := by
  simp only [adcForms, List.map_cons, List.map_nil, List.forall_mem_cons]
  repeat refine And.intro (fun b1 b2 => ⟨encodedAs_intro rfl rfl rfl rfl rfl, fun _ => rfl⟩) ?_
  exact List.forall_mem_nil _

/-- Settles O22: the source is read once, then the sum of what it was. -/
theorem addWithCarry : Obligations.AddWithCarry := by
  unfold Obligations.AddWithCarry
  intro f hf b1 b2
  obtain ⟨hencoded, hexec⟩ := adcForms_rows f hf b1 b2
  refine ⟨hencoded, fun s => ?_⟩
  have hadc := (hexec s).trans (congrArg Host.Outcome.next (adc_eq (f.source b1 b2) s))
  dsimp only at hadc
  rw [adcSum_eq] at hadc
  refine ⟨_, ?_, hadc⟩
  exact flagsAfter_putSum _ _

/-! ### SBC -/

theorem complement_toNat (m : Byte) : (m ^^^ 0xFF).toNat = 255 - m.toNat := by
  have hones : (0xFF : Byte) = BitVec.allOnes 8 := by decide
  rw [hones, BitVec.xor_allOnes, BitVec.toNat_not]

theorem complement_toInt (m : Byte) : (m ^^^ 0xFF).toInt = -m.toInt - 1 := by
  have hm := m.isLt
  rw [toInt_eq_bit7, toInt_eq_bit7, bit7_eq, bit7_eq, complement_toNat]
  simp only [decide_eq_true_iff]
  split <;> split <;> omega

/-- SBC's sum, binary or decimal, as a difference with borrow (R184, R186, D20). -/
theorem sbcSum_eq (dec : DecimalFn) (a m : Byte) (c d : Bool) :
    let borrow := 1 - c.toNat
    let signed : Int := a.toInt - m.toInt - borrow
    sbcSum dec a m c d =
      { result := if d = true then (dec a m c).1 else BitVec.ofInt 8 ((a.toNat : Int) - m.toNat - borrow)
        carry := if d = true then (dec a m c).2 else decide (m.toNat + borrow ≤ a.toNat)
        overflow := decide (signed < -128 ∨ 127 < signed) } := by
  intro borrow signed
  have ha := a.isLt
  have hm := m.isLt
  have hborrow : (borrow : Int) = 1 - c.toNat := by cases c <;> rfl
  have hsigned : a.toInt + (m ^^^ 0xFF).toInt + c.toNat = signed := by rw [complement_toInt]; omega
  have hsum : sbcSum dec a m c d = adcSum (fun _ _ _ => dec a m c) a (m ^^^ 0xFF) c d := rfl
  rw [hsum, adcSum_eq, adcBin_overflow_signed, hsigned, complement_toNat]
  congr 2
  · apply BitVec.eq_of_toNat_eq
    rw [BitVec.toNat_ofNat, BitVec.toNat_ofInt]
    omega
  · rw [decide_eq_decide]
    omega

theorem sbc_eq (src : Source) (s : State) :
    sbc src s =
      let got := readSource src s
      let sum := sbcSum (decSbc s.params) s.a got.1 (getFlag .c s.p) (getFlag .d s.p)
      (got.2.setA sum.result).setP (putSum sum got.2.p) := by
  have hdev := readSource_onlyDevices src s
  unfold sbc
  dsimp only
  rw [hdev.a, hdev.flags .c (by decide), hdev.flags .d (by decide)]

/-- Every form of SBC: its encoding, and its meaning as SBC of its source. -/
theorem sbcForms_rows : ∀ f ∈ sbcForms, ∀ b1 b2, f.Encoded b1 b2 ∧ ∀ s, exec (f.instr b1 b2) s = .next (sbc (f.source b1 b2) s) := by
  simp only [sbcForms, List.map_cons, List.map_nil, List.forall_mem_cons]
  repeat refine And.intro (fun b1 b2 => ⟨encodedAs_intro rfl rfl rfl rfl rfl, fun _ => rfl⟩) ?_
  exact List.forall_mem_nil _

/-- Settles O23: the source is read once, then the difference from what A was. -/
theorem subtractWithBorrow : Obligations.SubtractWithBorrow := by
  unfold Obligations.SubtractWithBorrow
  intro f hf b1 b2
  obtain ⟨hencoded, hexec⟩ := sbcForms_rows f hf b1 b2
  refine ⟨hencoded, fun s => ?_⟩
  have hsbc := (hexec s).trans (congrArg Host.Outcome.next (sbc_eq (f.source b1 b2) s))
  dsimp only at hsbc
  rw [sbcSum_eq] at hsbc
  refine ⟨_, ?_, hsbc⟩
  exact flagsAfter_putSum _ _

/-! ### The default decimal functions -/

/-- A byte of two decimal digits. -/
theorem isBcd_of_digits {v : Byte} {tens units : Nat} (hv : v.toNat = 16 * tens + units) (ht : tens ≤ 9) (hu : units ≤ 9) :
    IsBcd v ∧ bcdValue v = 10 * tens + units := by
  unfold IsBcd bcdValue
  omega

/-- The units of a sum, adjusted: the digit, and the carry in the next nibble. -/
theorem adjustedSum_digits {n : Nat} (h : n ≤ 19) : ∃ carry units, carry ≤ 1 ∧ units ≤ 9 ∧ n = 10 * carry + units ∧
    (if n ≥ 10 then (n + 6) % 16 + 16 else n) = 16 * carry + units := by
  split
  · exact ⟨1, n - 10, by omega⟩
  · exact ⟨0, n, by omega⟩

/-- The units of a difference, adjusted: the digit, and the borrow from the next nibble. -/
theorem adjustedDifference_digits {n : Int} (hlow : -10 ≤ n) (hhigh : n ≤ 9) : ∃ borrow units : Nat, borrow ≤ 1 ∧ units ≤ 9 ∧
    n = units - 10 * borrow ∧ (if n < 0 then (n - 6) % 16 - 16 else n) = units - 16 * borrow := by
  split
  · exact ⟨1, (n + 10).toNat, by omega⟩
  · exact ⟨0, n.toNat, by omega⟩

/-- The decimal sum of two BCD bytes, digit by digit: the carry out is its hundreds. -/
theorem defaultDecAdc_digits {a m : Byte} (c : Bool) (ha : IsBcd a) (hm : IsBcd m) : ∃ tens units, tens ≤ 9 ∧ units ≤ 9 ∧
    (defaultDecAdc a m c).1.toNat = 16 * tens + units ∧
    bcdValue a + bcdValue m + c.toNat = 100 * (defaultDecAdc a m c).2.toNat + (10 * tens + units) := by
  have hc := c.toNat_le
  unfold IsBcd at ha hm
  obtain ⟨carry, units, hcarry, hunits, hsum, hlow⟩ := adjustedSum_digits (n := a.toNat % 16 + m.toNat % 16 + c.toNat) (by omega)
  unfold defaultDecAdc bcdValue
  dsimp only
  rw [hlow, BitVec.toNat_ofNat]
  by_cases hwrap : a.toNat / 16 + m.toNat / 16 + carry ≥ 10
  · refine ⟨a.toNat / 16 + m.toNat / 16 + carry - 10, units, by omega, hunits, ?_⟩
    rw [if_pos (by omega), decide_eq_true (by omega), Bool.toNat_true]
    omega
  · refine ⟨a.toNat / 16 + m.toNat / 16 + carry, units, by omega, hunits, ?_⟩
    rw [if_neg (by omega), decide_eq_false (by omega), Bool.toNat_false]
    omega

theorem defaultDecAdc_decimal {a m : Byte} (c : Bool) (ha : IsBcd a) (hm : IsBcd m) :
    let n := bcdValue a + bcdValue m + c.toNat
    IsBcd (defaultDecAdc a m c).1 ∧ bcdValue (defaultDecAdc a m c).1 = n % 100 ∧ (defaultDecAdc a m c).2 = decide (n ≥ 100) := by
  obtain ⟨tens, units, htens, hunits, hresult, hn⟩ := defaultDecAdc_digits c ha hm
  obtain ⟨hbcd, hvalue⟩ := isBcd_of_digits hresult htens hunits
  dsimp only
  rw [hn, hvalue]
  refine ⟨hbcd, by omega, ?_⟩
  cases (defaultDecAdc a m c).2 with
  | false => exact (decide_eq_false (by rw [Bool.toNat_false]; omega)).symm
  | true => exact (decide_eq_true (by rw [Bool.toNat_true]; omega)).symm

/-- The decimal difference of two BCD bytes, digit by digit: with the carry clear the hundred is borrowed. -/
theorem defaultDecSbc_digits {a m : Byte} (c : Bool) (ha : IsBcd a) (hm : IsBcd m) : ∃ tens units : Nat, tens ≤ 9 ∧ units ≤ 9 ∧
    (defaultDecSbc a m c).1.toNat = 16 * tens + units ∧
    (bcdValue a : Int) - bcdValue m - (1 - c.toNat) = 100 * ((defaultDecSbc a m c).2.toNat - 1) + (10 * tens + units) := by
  have hc := c.toNat_le
  have hlt := m.isLt
  unfold IsBcd at ha hm
  obtain ⟨borrow, units, hborrow, hunits, hdiff, hlow⟩ :=
    adjustedDifference_digits (n := (a.toNat % 16 : Nat) - (m.toNat % 16 : Nat) + (c.toNat : Int) - 1) (by omega) (by omega)
  unfold defaultDecSbc bcdValue
  dsimp only
  rw [hlow, BitVec.toNat_ofInt, complement_toNat]
  by_cases hwrap : a.toNat / 16 < m.toNat / 16 + borrow
  · refine ⟨a.toNat / 16 + 10 - m.toNat / 16 - borrow, units, by omega, hunits, ?_⟩
    rw [if_pos (by omega), decide_eq_false (by omega), Bool.toNat_false]
    omega
  · refine ⟨a.toNat / 16 - m.toNat / 16 - borrow, units, by omega, hunits, ?_⟩
    rw [if_neg (by omega), decide_eq_true (by omega), Bool.toNat_true]
    omega

theorem defaultDecSbc_decimal {a m : Byte} (c : Bool) (ha : IsBcd a) (hm : IsBcd m) :
    let n : Int := (bcdValue a : Int) - bcdValue m - (1 - c.toNat)
    IsBcd (defaultDecSbc a m c).1 ∧ (bcdValue (defaultDecSbc a m c).1 : Int) = n % 100 ∧
      (defaultDecSbc a m c).2 = decide (n ≥ 0) := by
  obtain ⟨tens, units, htens, hunits, hresult, hn⟩ := defaultDecSbc_digits c ha hm
  obtain ⟨hbcd, hvalue⟩ := isBcd_of_digits hresult htens hunits
  dsimp only
  rw [hn, hvalue]
  refine ⟨hbcd, by omega, ?_⟩
  cases (defaultDecSbc a m c).2 with
  | false => exact (decide_eq_false (by rw [Bool.toNat_false]; omega)).symm
  | true => exact (decide_eq_true (by rw [Bool.toNat_true]; omega)).symm

/-- Settles O24: digit arithmetic for the default, and any pair can be listed. -/
theorem decimalArithmetic : Obligations.DecimalArithmetic := by
  unfold Obligations.DecimalArithmetic
  refine ⟨wellSupplied_standard.addVector, wellSupplied_standard.subVector,
    fun a m c ha hm => ⟨defaultDecAdc_decimal c ha hm, defaultDecSbc_decimal c ha hm⟩, decAdc_standard, decSbc_standard, fun f g => ?_⟩
  obtain ⟨q, -, hadd, hsub, -⟩ := exists_params defaultBaseCycles f g defaultReadClears defaultWriteClears
  exact ⟨q, hadd, hsub⟩

end Sys2Proof.Machine

/-! PROOFS. The fetch as Bus reads, and a step as the decoded instruction's meaning and its boundary. -/

namespace Sys2Proof.Machine

/-! ### The fetch -/

/-- One fetched byte, with PC told apart from the rest of the state: the Bus does not look at it. -/
theorem fetchByte_setPc (addr : Addr) (s : State) :
    fetchByte (s.setPc addr) = ((busRead addr s).1, (busRead addr s).2.setPc (addr + 1)) := by
  unfold fetchByte
  rw [State.setPc_pc, busRead_setPc]
  rfl

theorem fetchByte_eq (s : State) : fetchByte s = ((busRead s.pc s).1, (busRead s.pc s).2.setPc (s.pc + 1)) := fetchByte_setPc s.pc s

theorem fetch_one {s : State} {i : Instr} (h : opcodeEntry (busRead s.pc s).1 = .one i) :
    fetch s = (i, (busRead s.pc s).2.setPc (s.pc + 1)) := by
  unfold fetch
  simp only [fetchByte_eq s, h]

theorem fetch_two {s : State} {f : Byte → Instr} (h : opcodeEntry (busRead s.pc s).1 = .two f) :
    fetch s =
      let r1 := busRead (s.pc + 1) (busRead s.pc s).2
      (f r1.1, r1.2.setPc (s.pc + 2)) := by
  have hpc : s.pc + 1 + 1 = s.pc + 2 := BitVec.add_assoc ..
  unfold fetch
  simp only [fetchByte_eq s, h, fetchByte_setPc, hpc]

theorem fetch_three {s : State} {f : Addr → Instr} (h : opcodeEntry (busRead s.pc s).1 = .three f) :
    fetch s =
      let r1 := busRead (s.pc + 1) (busRead s.pc s).2
      let r2 := busRead (s.pc + 2) r1.2
      (f (addrOf r1.1 r2.1), r2.2.setPc (s.pc + 3)) := by
  have hpc : s.pc + 1 + 1 = s.pc + 2 := BitVec.add_assoc ..
  have hpc' : s.pc + 2 + 1 = s.pc + 3 := BitVec.add_assoc ..
  unfold fetch
  simp only [fetchByte_eq s, h, fetchByte_setPc, hpc, hpc']

/-- Settles O7, by what the opcode byte announces. -/
theorem fetchReadsThroughTheBus : Obligations.FetchReadsThroughTheBus := by
  unfold Obligations.FetchReadsThroughTheBus
  intro s r0 r1 r2
  rcases opcodeEntry_cases r0.1 with ⟨i, he, -, -, hlen⟩ | ⟨f, he, hf⟩ | ⟨f, he, hf⟩
  · exact ⟨i, .inl ⟨hlen, by simp only [decode, he], fetch_one he⟩⟩
  · obtain ⟨-, -, hlen⟩ := hf r1.1
    exact ⟨f r1.1, .inr (.inl ⟨hlen, by simp only [decode, he], fetch_two he⟩)⟩
  · obtain ⟨-, -, hlen⟩ := hf r1.1 r2.1
    exact ⟨f (addrOf r1.1 r2.1), .inr (.inr ⟨hlen, by simp only [decode, he], fetch_three he⟩)⟩

/-! ### The step -/

theorem instr_len_pos (i : Instr) : 0 < i.len := by
  unfold Instr.len
  cases i.mode <;> decide

/-- Where no region covers the instruction's bytes, the fetch reads them from memory and changes nothing but PC. -/
theorem fetch_of_decode {s : State} {i : Instr} {rest : List Byte}
    (hd : decode [s.memByte s.pc, s.memByte (s.pc + 1), s.memByte (s.pc + 2)] = .ok (i, rest))
    (hu : ∀ k : Nat, k < i.len → Unmatched s (s.pc + BitVec.ofNat 16 k)) :
    fetch s = (i, s.setPc (s.pc + BitVec.ofNat 16 i.len)) := by
  have hread : ∀ k, k < i.len → busRead (s.pc + BitVec.ofNat 16 k) s = (s.memByte (s.pc + BitVec.ofNat 16 k), s) :=
    fun k hk => busRead_plain (hu k hk) rfl
  have h0 : busRead s.pc s = (s.memByte s.pc, s) := by simpa using hread 0 (instr_len_pos i)
  rcases opcodeEntry_cases (s.memByte s.pc) with ⟨j, he, -, -, hlen⟩ | ⟨f, he, hf⟩ | ⟨f, he, hf⟩
  · simp only [decode, he] at hd
    cases hd
    rw [fetch_one (by rw [h0]; exact he), h0, hlen]
    rfl
  · obtain ⟨-, -, hlen⟩ := hf (s.memByte (s.pc + 1))
    simp only [decode, he] at hd
    cases hd
    have h1 : busRead (s.pc + 1) s = (s.memByte (s.pc + 1), s) := hread 1 (by omega)
    rw [fetch_two (by rw [h0]; exact he), h0]
    simp only [h1, hlen]
    rfl
  · obtain ⟨-, -, hlen⟩ := hf (s.memByte (s.pc + 1)) (s.memByte (s.pc + 2))
    simp only [decode, he] at hd
    cases hd
    have h1 : busRead (s.pc + 1) s = (s.memByte (s.pc + 1), s) := hread 1 (by omega)
    have h2 : busRead (s.pc + 2) s = (s.memByte (s.pc + 2), s) := hread 2 (by omega)
    rw [fetch_three (by rw [h0]; exact he), h0]
    simp only [h1, h2, hlen]
    rfl

/-- An instruction step from what its fetch gives. -/
theorem instructionStep_of_fetch {s u : State} {i : Instr} (h : fetch s = (i, u)) :
    ∃ t, exec i u = .next t ∧ instructionStep s = .next (boundary (cyclesOf i u) i.len t) := by
  obtain ⟨t, ht, hs, -⟩ := instructionStep_kept s
  rw [h] at ht hs
  exact ⟨t, ht, hs⟩

theorem step_noTurn {s : State} (h : s.agenda = []) : step s = instructionStep s := by simp only [step, h]

theorem step_instructionTurn {s : State} {turns : List Turn} (h : s.agenda = .instruction :: turns) :
    step s = instructionStep (s.setAgenda turns) := by simp only [step, h]

/-- Settles O6: the fetch finds the decoded instruction, in the state with the agenda advanced. -/
theorem stepRunsDecodedInstruction : Obligations.StepRunsDecodedInstruction := by
  unfold Obligations.StepRunsDecodedInstruction
  intro s i rest hd hu
  refine ⟨fun h => ?_, fun turns h => ?_⟩
  · obtain ⟨t, ht, hs⟩ := instructionStep_of_fetch (fetch_of_decode hd hu)
    exact ⟨t, ht, (step_noTurn h).trans hs⟩
  · obtain ⟨t, ht, hs⟩ := instructionStep_of_fetch (fetch_of_decode (s := s.setAgenda turns) hd hu)
    exact ⟨t, ht, (step_instructionTurn h).trans hs⟩

end Sys2Proof.Machine

/-! PROOFS. The layout of P. -/

namespace Sys2Proof.Machine

theorem Flag.mask_eq_twoPow (f : Flag) : f.mask = BitVec.twoPow 8 f.bit := by cases f <;> decide

/-- Testing a flag with its mask. -/
theorem getFlag_eq_mask (f : Flag) (p : Byte) : getFlag f p = decide (p &&& f.mask ≠ 0) := by
  have hpos : BitVec.twoPow 8 f.bit ≠ 0 := by cases f <;> decide
  rw [f.mask_eq_twoPow, BitVec.and_twoPow, getFlag]
  cases p.getLsbD f.bit with
  | false => rfl
  | true => exact (decide_eq_true hpos).symm

theorem putFlag_getLsbD_other (f : Flag) (v : Bool) (p : Byte) {k : Nat} (h : k ≠ f.bit) :
    (putFlag f v p).getLsbD k = p.getLsbD k := by
  unfold putFlag
  cases v with
  | true => rw [if_pos rfl, BitVec.getLsbD_or, f.mask_getLsbD, decide_eq_false h, Bool.or_false]
  | false =>
    rw [if_neg (by decide), BitVec.getLsbD_and, BitVec.getLsbD_not, f.mask_getLsbD, decide_eq_false h]
    by_cases hk : k < 8
    · simp [hk]
    · rw [BitVec.getLsbD_of_ge p k (by omega), Bool.false_and]

/-- Settles O14: the rows give each flag's bit and mask, and the rest holds of any flag. -/
theorem statusLayout : Obligations.StatusLayout := by
  unfold Obligations.StatusLayout
  intro row hrow p v
  have hlayout : row.2.1 = row.1.bit ∧ row.2.2 = row.1.mask := by
    revert row
    decide
  obtain ⟨hbit, hmask⟩ := hlayout
  rw [hbit, hmask]
  exact ⟨rfl, getFlag_eq_mask .., getFlag_putFlag_same .., fun k hk => putFlag_getLsbD_other row.1 v p hk⟩

end Sys2Proof.Machine

/-! PROOFS. Pushes, pulls, subroutines and the IRQ service, access by access. -/

namespace Sys2Proof.Machine

theorem callSubroutine_eq (w : Addr) (s : State) : callSubroutine w s =
    ((busWrite (stackSlot s.sp 255) (lowByte (s.pc - 1)) (busWrite (stackSlot s.sp 0) (highByte (s.pc - 1)) s)).setSp
      (s.sp - 2)).setPc w := by
  unfold callSubroutine
  rw [pushWord_eq]

theorem returnFromSubroutine_eq (s : State) : returnFromSubroutine s =
    let lo := busRead (stackSlot s.sp 1) s
    let hi := busRead (stackSlot s.sp 2) lo.2
    (hi.2.setSp (s.sp + 2)).setPc (addrOf lo.1 hi.1 + 1) := by
  unfold returnFromSubroutine
  rw [pullWord_eq]

/-- Settles O33: a pushed and a pulled word as two Bus accesses. -/
theorem subroutineInstructions : Obligations.SubroutineInstructions := by
  unfold Obligations.SubroutineInstructions
  refine ⟨fun lo hi => encodedAs_intro rfl rfl rfl rfl rfl, encodedAs_intro rfl rfl rfl rfl rfl, fun s w => ⟨?_, ?_⟩⟩
  · exact congrArg Host.Outcome.next (callSubroutine_eq w s)
  · exact congrArg Host.Outcome.next (returnFromSubroutine_eq s)

/-- Settles O34: a push and a pull as one Bus access. -/
theorem registerPushesAndPulls : Obligations.RegisterPushesAndPulls := by
  unfold Obligations.RegisterPushesAndPulls
  refine ⟨⟨?_, ?_, ?_, ?_, ?_, ?_⟩, fun s => ⟨?_, ?_, ?_, putZN (busRead (stackSlot s.sp 1) s).1 (busRead (stackSlot s.sp 1) s).2.p,
    flagsAfter_putZN .., ?_, ?_, ?_⟩⟩
  iterate 6 exact encodedAs_intro rfl rfl rfl rfl rfl
  iterate 3 exact congrArg Host.Outcome.next (push_eq _ s)
  · exact congrArg (fun got : Byte × State => Host.Outcome.next (loadA got.1 got.2)) (pull_eq s)
  · exact congrArg (fun got : Byte × State => Host.Outcome.next (loadX got.1 got.2)) (pull_eq s)
  · exact congrArg (fun got : Byte × State => Host.Outcome.next (loadY got.1 got.2)) (pull_eq s)

/-- Settles O46: the service is the interrupt entry without the break flag, and the latch cleared. -/
theorem irqService : Obligations.IrqService := by
  unfold Obligations.IrqService
  exact fun s => ⟨_, enterInterrupt_enters false irqVector s, rfl⟩

end Sys2Proof.Machine

/-! PROOFS. The instruction boundary: the countdown, the latches through its four steps, and what it serves. -/

namespace Sys2Proof.Machine

/-! ### The countdown -/

theorem countDown_inactive {s : State} (len : Nat) (h : s.nmiDelay = 0) : countDown len s = s := if_neg (by omega)

theorem countDown_expires {s : State} {len : Nat} (h : 0 < s.nmiDelay) (hl : s.nmiDelay ≤ len) :
    countDown len s = (s.setNmiDelay 0).setNmiPending true := by
  unfold countDown
  rw [if_pos h, if_pos hl]

theorem countDown_running {s : State} {len : Nat} (h : len < s.nmiDelay) : countDown len s = s.setNmiDelay (s.nmiDelay - len) := by
  unfold countDown
  rw [if_pos (by omega), if_neg (by omega)]

/-- Inactive or running: the length is subtracted, and 0 stays 0. -/
theorem countDown_unexpired {s : State} {len : Nat} (h : s.nmiDelay = 0 ∨ len < s.nmiDelay) :
    countDown len s = s.setNmiDelay (s.nmiDelay - len) := by
  rcases h with h | h
  · rw [countDown_inactive len h, h, Nat.zero_sub, ← h, State.setNmiDelay_self]
  · exact countDown_running h

/-- An inactive countdown stays inactive over any number of boundaries, and changes nothing. -/
theorem countDowns_inactive (lens : List Nat) {s : State} (h : s.nmiDelay = 0) :
    lens.foldl (fun u len => countDown len u) s = s := by
  induction lens with
  | nil => rfl
  | cons len lens ih => rw [List.foldl_cons, countDown_inactive len h, ih]

/-- An active countdown over any sequence of boundaries, from any value. -/
theorem countDowns_nmiPending (lens : List Nat) {s : State} (h : 0 < s.nmiDelay) (hp : s.nmiPending = false) :
    (lens.foldl (fun u len => countDown len u) s).nmiPending = decide (s.nmiDelay ≤ lens.sum) := by
  induction lens generalizing s with
  | nil => exact hp.trans (decide_eq_false (by rw [List.sum_nil]; omega)).symm
  | cons len lens ih =>
    rw [List.foldl_cons, List.sum_cons]
    by_cases hl : s.nmiDelay ≤ len
    · rw [countDown_expires h hl, countDowns_inactive lens rfl, decide_eq_true (by omega)]
      rfl
    · have hleft : 0 < (s.setNmiDelay (s.nmiDelay - len)).nmiDelay := by rw [State.setNmiDelay_nmiDelay]; omega
      rw [countDown_running (by omega), ih hleft hp, State.setNmiDelay_nmiDelay, decide_eq_decide]
      omega

/-- Settles O50: the three cases of one boundary, and the sum over many by induction. -/
theorem delayedNmiCountdown : Obligations.DelayedNmiCountdown := by
  unfold Obligations.DelayedNmiCountdown
  refine ⟨fun len s => ⟨countDown_inactive len, countDown_expires, countDown_running⟩, fun lens s => ?_⟩
  exact countDowns_nmiPending lens (s := { s with nmiDelay := 8, nmiPending := false }) (by show 0 < 8; decide) rfl

/-! ### The latches through the boundary -/

theorem updateTimers_requesting {cycles : Nat} {s : State} (h : ∃ t ∈ s.timers, (t.update cycles).1 = true) :
    updateTimers cycles s = assertIrq (s.setTimers (s.timers.map fun t => (t.update cycles).2)) :=
  if_pos (List.any_eq_true.2 h)

theorem updateTimers_idle {cycles : Nat} {s : State} (h : ∀ t ∈ s.timers, (t.update cycles).1 = false) :
    updateTimers cycles s = s.setTimers (s.timers.map fun t => (t.update cycles).2) :=
  if_neg (by simpa using h)

theorem updateTimers_irqPending (cycles : Nat) {s : State} (h : s.irqPending = true) : (updateTimers cycles s).irqPending = true := by
  unfold updateTimers
  dsimp only
  split
  · rfl
  · exact h

@[simp] theorem updateTimers_nmiPending (cycles : Nat) (s : State) : (updateTimers cycles s).nmiPending = s.nmiPending := by
  unfold updateTimers
  dsimp only
  split <;> rfl

theorem countDown_nmiPending (len : Nat) {s : State} (h : s.nmiPending = true) : (countDown len s).nmiPending = true := by
  unfold countDown
  split
  · split
    · rfl
    · exact h
  · exact h

/-- What the gate and the test see: the timer updates and the countdown leave I. -/
theorem beforeGate_interruptFlag (cycles len : Nat) (s : State) :
    getFlag .i (countDown len (updateTimers cycles s)).p = getFlag .i s.p := by
  rw [countDown_p, updateTimers_interruptFlag]

theorem irqGate_eq (s : State) : irqGate s = if s.irqPending = true ∧ getFlag .i s.p = false then serviceIrq s else s := by
  unfold irqGate
  simp only [Bool.and_eq_true, Bool.not_eq_true']

theorem irqGate_open {s : State} (h : s.irqPending = true) (hi : getFlag .i s.p = false) : irqGate s = serviceIrq s := by
  rw [irqGate_eq, if_pos ⟨h, hi⟩]

theorem irqGate_masked {s : State} (hi : getFlag .i s.p = true) : irqGate s = s := by
  rw [irqGate_eq, if_neg (by simp [hi])]

theorem irqGate_idle {s : State} (h : s.irqPending = false) : irqGate s = s := by
  rw [irqGate_eq, if_neg (by simp [h])]

/-- An IRQ service takes no NMI request back. -/
theorem irqGate_nmiPending {s : State} (h : s.nmiPending = true) : (irqGate s).nmiPending = true := by
  unfold irqGate
  split
  · exact (reaches_enterInterrupt false irqVector s).2.nmi h
  · exact h

/-- An NMI service takes no IRQ request back. -/
theorem nmiTest_irqPending {s : State} (h : s.irqPending = true) : (nmiTest s).irqPending = true := by
  unfold nmiTest
  split
  · exact (reaches_enterInterrupt false nmiVector s).2.irq h
  · exact h

theorem nmiTest_pending {s : State} (h : s.nmiPending = true) : nmiTest s = serviceNmi s := if_pos h

theorem nmiTest_idle {s : State} (h : s.nmiPending = false) : nmiTest s = s := if_neg (by simp [h])

/-! ### The boundary -/

theorem boundary_keeps_masked_irq (cycles len : Nat) {s : State} (h : s.irqPending = true) (hi : getFlag .i s.p = true) :
    (boundary cycles len s).irqPending = true := by
  unfold boundary
  rw [irqGate_masked (by rw [beforeGate_interruptFlag]; exact hi)]
  exact nmiTest_irqPending (by rw [countDown_irqPending]; exact updateTimers_irqPending cycles h)

/-- An NMI pending when the gate is reached is served, whatever the gate does. -/
theorem boundary_serves_nmi {cycles len : Nat} {s : State} (h : (countDown len (updateTimers cycles s)).nmiPending = true) :
    boundary cycles len s = serviceNmi (irqGate (countDown len (updateTimers cycles s))) :=
  nmiTest_pending (irqGate_nmiPending h)

/-- A timer's request opens the gate of its own boundary. -/
theorem boundary_serves_timer_request {cycles : Nat} (len : Nat) {s : State} (h : ∃ t ∈ s.timers, (t.update cycles).1 = true)
    (hi : getFlag .i s.p = false) :
    boundary cycles len s = nmiTest (serviceIrq (countDown len (updateTimers cycles s))) := by
  unfold boundary
  rw [irqGate_open ?_ ((beforeGate_interruptFlag ..).trans hi)]
  rw [countDown_irqPending, updateTimers_requesting h]
  rfl

/-- With no request, before or in the boundary, nothing is served. -/
theorem boundary_idle {cycles len : Nat} {s : State} (ht : ∀ t ∈ s.timers, (t.update cycles).1 = false) (hirq : s.irqPending = false)
    (hnmi : s.nmiPending = false) (hd : s.nmiDelay = 0 ∨ len < s.nmiDelay) :
    boundary cycles len s =
      { s with timers := s.timers.map (fun t => (t.update cycles).2), nmiDelay := s.nmiDelay - len } := by
  unfold boundary
  rw [updateTimers_idle ht, countDown_unexpired (by exact hd), irqGate_idle (by exact hirq), nmiTest_idle (by exact hnmi)]
  rfl

/-- Settles O12: the latches through an instruction and through each step of the boundary. -/
theorem requestsStayPending : Obligations.RequestsStayPending := by
  unfold Obligations.RequestsStayPending
  refine ⟨fun i s => ?_, fun cycles len s h hi => boundary_keeps_masked_irq cycles len h hi, fun cycles len s h => ?_,
    fun cycles len s => ?_, fun cycles len s h hi => boundary_serves_timer_request len h hi, fun cycles len s h hl => ?_,
    fun cycles len s => boundary_idle⟩
  · obtain ⟨t, ht, -, hlatched⟩ := exec_reaches i s
    exact ⟨t, ht, hlatched.irq, hlatched.nmi⟩
  · exact boundary_serves_nmi (countDown_nmiPending len (by rw [updateTimers_nmiPending]; exact h))
  · exact congrArg nmiTest (irqGate_eq _)
  · refine boundary_serves_nmi ?_
    rw [countDown_expires (by rwa [updateTimers_nmiDelay]) (by rwa [updateTimers_nmiDelay])]
    rfl

end Sys2Proof.Machine

/-! PROOFS. The frame of every instruction: each form as its shared operation, and the shared operations' frames composed. -/

namespace Sys2Proof.Machine

/-! ### Composing frames -/

theorem Frame.trans {s t u : State} {regs : List Reg} {written : List Flag} (h : Frame s t regs written) (k : Frame t u regs written) :
    Frame s u regs written where
  a n := (k.a n).trans (h.a n)
  x n := (k.x n).trans (h.x n)
  y n := (k.y n).trans (h.y n)
  sp n := (k.sp n).trans (h.sp n)
  flags f n b := (k.flags f n b).trans (h.flags f n b)
  breakFlag n e := h.breakFlag n (k.breakFlag n e)
  irq e := k.irq (h.irq e)
  nmi e := k.nmi (h.nmi e)
  delay := k.delay.elim (fun e => e ▸ h.delay) .inr
  readOnly := k.readOnly.trans h.readOnly
  regions := k.regions.trans h.regions
  instances := k.instances.trans h.instances
  agenda := k.agenda.trans h.agenda
  params := k.params.trans h.params
  quietBreak q n := (k.quietBreak (h.regions.trans q) n).trans (h.quietBreak q n)
  quiet q := by
    obtain ⟨hi, hn, hd, ht, hs, ha⟩ := h.quiet q
    obtain ⟨ki, kn, kd, kt, ks, ka⟩ := k.quiet (h.regions.trans q)
    exact ⟨ki.trans hi, kn.trans hn, kd.trans hd, kt.trans ht, ks.trans hs, ka.trans ha⟩

/-- A frame that lets more change. -/
theorem Frame.mono {s t : State} {regs regs' : List Reg} {written written' : List Flag} (h : Frame s t regs written)
    (hr : regs ⊆ regs') (hw : written ⊆ written') : Frame s t regs' written' :=
  { h with
    a := fun n => h.a fun m => n (hr m)
    x := fun n => h.x fun m => n (hr m)
    y := fun n => h.y fun m => n (hr m)
    sp := fun n => h.sp fun m => n (hr m)
    flags := fun f n => h.flags f fun m => n (hw m)
    breakFlag := fun n => h.breakFlag fun m => n (hw m)
    quietBreak := fun q n => h.quietBreak q fun m => n (hw m) }

theorem StoresAt.mono {s t : State} {regs regs' : List Reg} {written written' : List Flag} {P Q : Addr → Prop}
    (h : StoresAt s t regs written P) (hr : regs ⊆ regs') (hw : written ⊆ written') (hP : ∀ k, Q k → P k) :
    StoresAt s t regs' written' Q :=
  ⟨h.1.mono hr hw, fun k hk => h.2 k (hP k hk)⟩

/-- One operation after another: what either writes may be changed. -/
theorem StoresAt.trans {s t u : State} {regs regs' : List Reg} {written written' : List Flag} {P Q : Addr → Prop}
    (h : StoresAt s t regs written P) (k : StoresAt t u regs' written' Q) :
    StoresAt s u (regs ++ regs') (written ++ written') (fun a => P a ∧ Q a) :=
  ⟨(h.1.mono (List.subset_append_left ..) (List.subset_append_left ..)).trans
    (k.1.mono (List.subset_append_right ..) (List.subset_append_right ..)), fun a ha => (k.2 a ha.2).trans (h.2 a ha.1)⟩

theorem StoresAt.keeps {s t u : State} {regs regs' : List Reg} {written written' : List Flag} {P : Addr → Prop}
    (h : StoresAt s t regs written P) (k : KeepsMemory t u regs' written') : StoresAt s u (regs ++ regs') (written ++ written') P :=
  (StoresAt.trans h (Q := fun _ => True) ⟨k.1, fun a _ => k.2 a⟩).mono (List.Subset.refl _) (List.Subset.refl _)
    fun _ ha => ⟨ha, trivial⟩

theorem KeepsMemory.keeps {s t u : State} {regs regs' : List Reg} {written written' : List Flag}
    (h : KeepsMemory s t regs written) (k : KeepsMemory t u regs' written') :
    KeepsMemory s u (regs ++ regs') (written ++ written') :=
  have hk := StoresAt.keeps (P := fun _ => True) ⟨h.1, fun a _ => h.2 a⟩ k
  ⟨hk.1, fun a => hk.2 a trivial⟩

theorem frame_busRead (addr : Addr) (s : State) : KeepsMemory s (busRead addr s).2 [] [] :=
  .of_reads (busRead_onlyDevices addr s) (busRead_quiet addr) ⟨_, _, _, _, _, _, rfl⟩ (fun _ => rfl) (fun _ => rfl) (fun _ => rfl)
    (fun _ => rfl) (fun _ _ => rfl)

theorem frame_busWrite (addr : Addr) (v : Byte) (s : State) : StoresAt s (busWrite addr v s) [] [] (fun k => k ≠ addr) :=
  ⟨.of_devices (busWrite_stored addr v s).devices (busWrite_quiet addr v) ⟨_, _, _, _, _, _, _, rfl⟩ (fun _ => rfl) (fun _ => rfl)
    (fun _ => rfl) (fun _ => rfl) (fun _ _ => rfl), fun _ hk => (busWrite_stored addr v s).memByte_other hk⟩

/-- A new status word that differs in the written flags only. -/
theorem frame_setP {v : Byte} {s : State} {written : List Flag} (h : ∀ f, f ∉ written → getFlag f v = getFlag f s.p) :
    KeepsMemory s (s.setP v) [] written :=
  .of_reads (.refl s) (fun _ => rfl) ⟨_, _, _, _, _, _, rfl⟩ (fun _ => rfl) (fun _ => rfl) (fun _ => rfl) (fun _ => rfl) h

/-! ### Interrupt entry and return -/

/-- The three slots of an interrupt entry are stored to, and B and I written (R259, R280, R281). -/
theorem EntersInterrupt.frame {setsBreak : Bool} {ret vector : Addr} {s t : State} (h : EntersInterrupt setsBreak ret vector s t) :
    StoresAt s t [.sp] [.b, .i] (fun k => k ≠ stackSlot s.sp 0 ∧ k ≠ stackSlot s.sp 255 ∧ k ≠ stackSlot s.sp 254) := by
  obtain ⟨image, himage, status, hstatus, rfl⟩ := h
  have h1 := (frame_busWrite (stackSlot s.sp 0) (highByte ret) s).trans (frame_busWrite (stackSlot s.sp 255) (lowByte ret) _)
  have h2 := (h1.keeps (frame_setP (himage.outside (List.Subset.refl _)))).trans (frame_busWrite (stackSlot s.sp 254) image _)
  have h3 := (h2.keeps (frame_setP (hstatus.outside (List.Subset.refl _)))).keeps (frame_busRead vector _)
  have h4 := (h3.keeps (frame_busRead (vector + 1) _)).keeps (frame_setSp (s.sp - 3) _)
  exact StoresAt.mono (h4.keeps (frame_setPc _ _)) (by simp) (by cases setsBreak <;> simp) fun k hk => ⟨⟨hk.1, hk.2.1⟩, hk.2.2⟩

theorem frame_returnFromInterrupt (s : State) : KeepsMemory s (returnFromInterrupt s) [.sp] allFlags := by
  rw [returnFromInterrupt_eq]
  have h1 := (frame_busRead (stackSlot s.sp 1) s).keeps (frame_setP (v := statusFrom (busRead (stackSlot s.sp 1) s).1) (written := allFlags)
    fun f hf => absurd (mem_allFlags f) hf)
  have h2 := (h1.keeps (frame_busRead (stackSlot s.sp 2) _)).keeps (frame_busRead (stackSlot s.sp 3) _)
  exact (h2.keeps (frame_setSp (s.sp + 3) _)).keeps (frame_setPc _ _)

/-! ### The forms as their operations -/

/-- Every row of a table encodes its instruction, whose meaning is the operation on the row's source. -/
def ReadsAs (forms : List ReadForm) (op : Source → State → State) : Prop :=
  ∀ f ∈ forms, ∀ b1 b2, f.Encoded b1 b2 ∧ ∀ s, exec (f.instr b1 b2) s = .next (op (f.source b1 b2) s)

/-- Every row of a table encodes its instruction, whose meaning is the operation on the row's memory operand. -/
def ActsAs (forms : List MemForm) (op : Operand → State → State) : Prop :=
  ∀ f ∈ forms, ∀ b1 b2, f.Encoded b1 b2 ∧ ∀ s, exec (f.instr b1 b2) s = .next (op (f.operand b1 b2) s)

/-- The rows of the reading instructions (R161 to R163, R187 to R189, R201 to R203); ADC's and SBC's are `adcForms_rows` and
`sbcForms_rows`. -/
theorem readsAs_rows : ReadsAs ldaForms lda ∧ ReadsAs ldxForms ldx ∧ ReadsAs ldyForms ldy ∧
    ReadsAs cmpForms (fun src s => compare s.a src s) ∧ ReadsAs cpxForms (fun src s => compare s.x src s) ∧
    ReadsAs cpyForms (fun src s => compare s.y src s) ∧ ReadsAs andForms (logicA fun a m => a &&& m) ∧
    ReadsAs oraForms (logicA fun a m => a ||| m) ∧ ReadsAs eorForms (logicA fun a m => a ^^^ m) := by
  simp only [ReadsAs, ldaForms, ldxForms, ldyForms, cmpForms, cpxForms, cpyForms, andForms, oraForms, eorForms, List.map_cons,
    List.map_nil, List.forall_mem_cons, List.not_mem_nil, false_implies, implies_true, and_true]
  and_intros
  all_goals exact fun b1 b2 => ⟨encodedAs_intro rfl rfl rfl rfl rfl, fun _ => rfl⟩

/-- The rows of the instructions with a memory operand that is no source (R164 to R167, R190, R191, R204 to R210). -/
theorem actsAs_rows : ActsAs staForms (fun o s => storeTo o s.a s) ∧ ActsAs stxForms (fun o s => storeTo o s.x s) ∧
    ActsAs styForms (fun o s => storeTo o s.y s) ∧ ActsAs stzForms (storeTo · 0x00) ∧ ActsAs incForms incMemory ∧
    ActsAs decForms decMemory ∧ ActsAs bitForms bitTest ∧ ActsAs trbForms trb ∧ ActsAs tsbForms tsb ∧
    ActsAs aslForms (shiftMemory .asl) ∧ ActsAs lsrForms (shiftMemory .lsr) ∧ ActsAs rolForms (shiftMemory .rol) ∧
    ActsAs rorForms (shiftMemory .ror) := by
  simp only [ActsAs, staForms, stxForms, styForms, stzForms, incForms, decForms, bitForms, trbForms, tsbForms, aslForms, lsrForms,
    rolForms, rorForms, List.forall_mem_cons, List.not_mem_nil, false_implies, implies_true, and_true]
  and_intros
  all_goals exact fun b1 b2 => ⟨encodedAs_intro rfl rfl rfl rfl rfl, fun _ => rfl⟩

/-! ### Instructions that store nothing -/

/-- An instruction answers a next state and stores nothing. -/
abbrev ExecKeeps (i : Instr) (s : State) (regs : List Reg) (written : List Flag) : Prop :=
  ∃ t, exec i s = .next t ∧ KeepsMemory s t regs written

theorem ReadsAs.execKeeps {forms : List ReadForm} {op : Source → State → State} {regs : List Reg} {written : List Flag}
    (h : ReadsAs forms op) (hop : ∀ src s, KeepsMemory s (op src s) regs written) :
    ∀ f ∈ forms, ∀ b1 b2, ∀ s, ExecKeeps (f.instr b1 b2) s regs written :=
  fun f hf b1 b2 s => ⟨_, (h f hf b1 b2).2 s, hop _ s⟩

theorem ActsAs.execKeeps {forms : List MemForm} {op : Operand → State → State} {regs : List Reg} {written : List Flag}
    (h : ActsAs forms op) (hop : ∀ o s, KeepsMemory s (op o s) regs written) :
    ∀ f ∈ forms.map MemForm.reads, ∀ b1 b2, ∀ s, ExecKeeps (f.instr b1 b2) s regs written :=
  List.forall_mem_map.2 fun f hf b1 b2 s => ⟨_, (h f hf b1 b2).2 s, hop _ s⟩

theorem readingFrames_keep : ∀ row ∈ readingFrames, ∀ f ∈ row.1, ∀ b1 b2, ∀ s, ExecKeeps (f.instr b1 b2) s row.2.1 row.2.2 := by
  obtain ⟨hlda, hldx, hldy, hcmp, hcpx, hcpy, hand, hora, heor⟩ := readsAs_rows
  obtain ⟨-, -, -, -, -, -, hbit, -⟩ := actsAs_rows
  have hadc : ReadsAs adcForms adc := adcForms_rows
  have hsbc : ReadsAs sbcForms sbc := sbcForms_rows
  simp only [readingFrames, List.forall_mem_cons]
  exact ⟨hlda.execKeeps frame_lda, hldx.execKeeps frame_ldx, hldy.execKeeps frame_ldy, hadc.execKeeps frame_adc,
    hsbc.execKeeps frame_sbc, hcmp.execKeeps fun src s => frame_compare s.a src s, hcpx.execKeeps fun src s => frame_compare s.x src s,
    hcpy.execKeeps fun src s => frame_compare s.y src s, hand.execKeeps (frame_logicA _), hora.execKeeps (frame_logicA _),
    heor.execKeeps (frame_logicA _), hbit.execKeeps frame_bitTest, List.forall_mem_nil _⟩

theorem impliedFrames_keep : ∀ row ∈ impliedFrames, ∀ s, ExecKeeps row.1 s row.2.1 row.2.2 := by
  simp only [impliedFrames, List.cons_append, List.nil_append, List.forall_mem_cons]
  exact ⟨fun s => ⟨_, rfl, frame_loadX s.a s⟩, fun s => ⟨_, rfl, frame_loadY s.a s⟩, fun s => ⟨_, rfl, frame_loadA s.x s⟩,
    fun s => ⟨_, rfl, frame_loadA s.y s⟩, fun s => ⟨_, rfl, frame_loadX s.sp s⟩, fun s => ⟨_, rfl, frame_setSp s.x s⟩,
    fun s => ⟨_, rfl, frame_loadA (s.a + 1) s⟩, fun s => ⟨_, rfl, frame_loadA (s.a - 1) s⟩,
    fun s => ⟨_, rfl, frame_loadX (s.x + 1) s⟩, fun s => ⟨_, rfl, frame_loadY (s.y + 1) s⟩,
    fun s => ⟨_, rfl, frame_loadX (s.x - 1) s⟩, fun s => ⟨_, rfl, frame_loadY (s.y - 1) s⟩,
    fun s => ⟨_, rfl, frame_shiftA .asl s⟩, fun s => ⟨_, rfl, frame_shiftA .lsr s⟩, fun s => ⟨_, rfl, frame_shiftA .rol s⟩,
    fun s => ⟨_, rfl, frame_shiftA .ror s⟩,
    fun s => ⟨_, rfl, frame_writeFlag .c false s⟩, fun s => ⟨_, rfl, frame_writeFlag .c true s⟩,
    fun s => ⟨_, rfl, frame_writeFlag .i false s⟩, fun s => ⟨_, rfl, frame_writeFlag .i true s⟩,
    fun s => ⟨_, rfl, frame_writeFlag .d false s⟩, fun s => ⟨_, rfl, frame_writeFlag .d true s⟩,
    fun s => ⟨_, rfl, frame_writeFlag .v false s⟩, fun s => ⟨_, rfl, frame_refl s⟩,
    fun s => ⟨_, rfl, frame_pullA s⟩, fun s => ⟨_, rfl, frame_pullX s⟩, fun s => ⟨_, rfl, frame_pullY s⟩,
    fun s => ⟨_, rfl, frame_pullStatus s⟩, fun s => ⟨_, rfl, frame_returnFromSubroutine s⟩,
    fun s => ⟨_, rfl, frame_returnFromInterrupt s⟩, List.forall_mem_nil _⟩

theorem branchRows_keep : ∀ row ∈ branchRows, ∀ (d : Byte) (s : State), ExecKeeps (row.1 d) s [] [] := by
  have hbranch : ∀ (c : Cond) (i : Byte → Instr), (∀ d s, exec (i d) s = .next (branch c d s)) →
      ∀ (d : Byte) (s : State), ExecKeeps (i d) s [] [] := fun c i h d s => ⟨_, h d s, frame_branch c d s⟩
  simp only [branchRows, List.forall_mem_cons]
  exact ⟨hbranch .pl _ fun _ _ => rfl, hbranch .mi _ fun _ _ => rfl, hbranch .vc _ fun _ _ => rfl, hbranch .vs _ fun _ _ => rfl,
    hbranch .cc _ fun _ _ => rfl, hbranch .cs _ fun _ _ => rfl, hbranch .ne _ fun _ _ => rfl, hbranch .eq _ fun _ _ => rfl,
    hbranch .always _ fun _ _ => rfl, List.forall_mem_nil _⟩

/-- Settles O40, table by table: each instruction has the frame of its shared operation. -/
theorem frameOfInstructionsThatStoreNothing : Obligations.FrameOfInstructionsThatStoreNothing := by
  unfold Obligations.FrameOfInstructionsThatStoreNothing
  refine ⟨readingFrames_keep, impliedFrames_keep, branchRows_keep, fun w s => ?_⟩
  simp only [List.forall_mem_cons]
  exact ⟨⟨_, rfl, frame_jump (.abs w) s⟩, ⟨_, rfl, frame_jump (.ind w) s⟩, ⟨_, rfl, frame_jump (.iax w) s⟩, List.forall_mem_nil _⟩

/-! ### Instructions that store -/

/-- An instruction answers a next state and leaves every byte of memory that satisfies `P`. -/
abbrev ExecStores (i : Instr) (s : State) (regs : List Reg) (written : List Flag) (P : Addr → Prop) : Prop :=
  ∃ t, exec i s = .next t ∧ StoresAt s t regs written P

theorem ActsAs.execStores {forms : List MemForm} {op : Operand → State → State} {written : List Flag}
    (h : ActsAs forms op) (hop : ∀ o s, StoresAt s (op o s) [] written (fun k => k ≠ (resolve o s).ea)) :
    ∀ f ∈ forms, ∀ b1 b2, ∀ s, ExecStores (f.instr b1 b2) s [] written (fun k => k ≠ (resolve (f.operand b1 b2) s).ea) :=
  fun f hf b1 b2 s => ⟨_, (h f hf b1 b2).2 s, hop _ s⟩

theorem storingFrames_store : ∀ row ∈ storingFrames, ∀ f ∈ row.1, ∀ b1 b2, ∀ s,
    ExecStores (f.instr b1 b2) s [] row.2 (fun k => k ≠ (resolve (f.operand b1 b2) s).ea) := by
  obtain ⟨hsta, hstx, hsty, hstz, hinc, hdec, -, htrb, htsb, hasl, hlsr, hrol, hror⟩ := actsAs_rows
  simp only [storingFrames, List.forall_mem_cons]
  exact ⟨hsta.execStores fun o s => frame_storeTo o s.a s, hstx.execStores fun o s => frame_storeTo o s.x s,
    hsty.execStores fun o s => frame_storeTo o s.y s, hstz.execStores fun o s => frame_storeTo o 0x00 s,
    hinc.execStores frame_incMemory, hdec.execStores frame_decMemory, htrb.execStores frame_trb, htsb.execStores frame_tsb,
    hasl.execStores (frame_shiftMemory .asl), hlsr.execStores (frame_shiftMemory .lsr), hrol.execStores (frame_shiftMemory .rol),
    hror.execStores (frame_shiftMemory .ror), List.forall_mem_nil _⟩

theorem pushes_store (s : State) : ∀ i ∈ [Instr.pha, Instr.phx, Instr.phy, Instr.php],
    ExecStores i s [.sp] [] (fun k => k ≠ stackSlot s.sp 0) := by
  simp only [List.forall_mem_cons]
  exact ⟨⟨_, rfl, frame_push s.a s⟩, ⟨_, rfl, frame_push s.x s⟩, ⟨_, rfl, frame_push s.y s⟩, ⟨_, rfl, frame_push (s.p ||| 0x30) s⟩,
    List.forall_mem_nil _⟩

theorem softwareInterrupts_store (s : State) : ∀ i ∈ Instr.brk :: undefinedSlots.map Prod.fst,
    ExecStores i s [.sp] [.b, .i] (fun k => k ≠ stackSlot s.sp 0 ∧ k ≠ stackSlot s.sp 255 ∧ k ≠ stackSlot s.sp 254) := by
  have hbrk : ExecStores .brk s [.sp] [.b, .i] _ := ⟨_, rfl, (softwareInterrupt_enters s).frame⟩
  rw [List.forall_mem_cons, List.forall_mem_map]
  refine ⟨hbrk, fun row hrow => ?_⟩
  obtain ⟨-, -, -, hexec⟩ := undefinedSlots_rows row hrow
  rw [ExecStores, hexec]
  exact hbrk

/-- Settles O41, table by table: each instruction has the frame of its shared operation. -/
theorem frameOfInstructionsThatStore : Obligations.FrameOfInstructionsThatStore := by
  unfold Obligations.FrameOfInstructionsThatStore
  refine ⟨storingFrames_store, fun i hi s => pushes_store s i hi, fun w s => ?_, fun i hi s => ?_⟩
  · obtain ⟨hframe, hmem⟩ := frame_callSubroutine w s
    exact ⟨_, rfl, hframe, fun k h0 h1 => hmem k ⟨h0, h1⟩⟩
  · obtain ⟨t, ht, hframe, hmem⟩ := softwareInterrupts_store s i hi
    exact ⟨t, ht, hframe, fun k h0 h1 h2 => hmem k ⟨h0, h1, h2⟩⟩

end Sys2Proof.Machine

/-! PROOFS. RTS undoes JSR and RTI undoes the software interrupt, over plain RAM. -/

namespace Sys2Proof.Machine

/-- The slots of a stack pointer moved down, modulo 256. -/
theorem stackSlot_sub (sp : Byte) {n k j : Nat} (hn : n < 256) (h : (256 - n + k) % 256 = j) :
    stackSlot (sp - BitVec.ofNat 8 n) k = stackSlot sp j := by
  apply BitVec.eq_of_toNat_eq
  rw [stackSlot_toNat, stackSlot_toNat, BitVec.toNat_sub, BitVec.toNat_ofNat]
  omega

/-- A call over plain RAM: two bytes of memory, S and PC. -/
theorem callSubroutine_plain (w : Addr) {s : State} (h0 : PlainRam s (stackSlot s.sp 0)) (h1 : PlainRam s (stackSlot s.sp 255)) :
    callSubroutine w s =
      (((s.memStore (stackSlot s.sp 0) (highByte (s.pc - 1))).memStore (stackSlot s.sp 255) (lowByte (s.pc - 1))).setSp
        (s.sp - 2)).setPc w := by
  rw [callSubroutine_eq, busWrite_plain (u := s) _ h0 rfl rfl, busWrite_plain (u := s.memStore _ _) _ h1 rfl rfl]

/-- A return over unmatched slots reads memory. -/
theorem returnFromSubroutine_plain {s : State} (h1 : Unmatched s (stackSlot s.sp 1)) (h2 : Unmatched s (stackSlot s.sp 2)) :
    returnFromSubroutine s =
      (s.setSp (s.sp + 2)).setPc (addrOf (s.memByte (stackSlot s.sp 1)) (s.memByte (stackSlot s.sp 2)) + 1) := by
  rw [returnFromSubroutine_eq, busRead_plain h1 rfl]
  dsimp only
  rw [busRead_plain h2 rfl]

theorem returnFromInterrupt_plain {s : State} (h1 : Unmatched s (stackSlot s.sp 1)) (h2 : Unmatched s (stackSlot s.sp 2))
    (h3 : Unmatched s (stackSlot s.sp 3)) :
    returnFromInterrupt s =
      ((s.setP (statusFrom (s.memByte (stackSlot s.sp 1)))).setSp (s.sp + 3)).setPc
        (addrOf (s.memByte (stackSlot s.sp 2)) (s.memByte (stackSlot s.sp 3))) := by
  rw [returnFromInterrupt_eq, busRead_plain h1 rfl]
  dsimp only
  have hplain : ∀ {addr : Addr}, Unmatched s addr → ∀ v, busRead addr (s.setP v) = (s.memByte addr, s.setP v) :=
    fun h v => busRead_plain (u := s.setP v) h rfl
  simp only [hplain h2, hplain h3]

/-- The software interrupt over plain RAM and an unmatched vector. -/
theorem softwareInterrupt_plain {s : State} (h0 : PlainRam s (stackSlot s.sp 0)) (h1 : PlainRam s (stackSlot s.sp 255))
    (h2 : PlainRam s (stackSlot s.sp 254)) (v0 : Unmatched s 0xFFFE) (v1 : Unmatched s 0xFFFF) :
    softwareInterrupt s =
      (((s.setMem (entryMem (putFlag .b true s.p) (s.setPc (s.pc + 1)))).setP (putFlag .i true (putFlag .b true s.p))).setSp
        (s.sp - 3)).setPc (addrOf (s.memByte 0xFFFE) (s.memByte 0xFFFF)) :=
  enterInterrupt_plain true (s := s.setPc (s.pc + 1)) (vector := irqVector) h0 h1 h2 v0 v1 (by decide) (by decide) _ rfl

/-- The status word RTI loads after a software interrupt: B is the only flag that changes (R259, R260). -/
theorem flagsAfter_stackedStatus {p : Byte} (h : getFlag .u p = true) :
    FlagsAfter p (statusFrom (putFlag .b true p)) [(.b, true)] := by
  have hforced : statusFrom (putFlag .b true p) = putFlag .b true p := by
    refine status_ext fun f => ?_
    rw [getFlag_statusFrom]
    split
    · rename_i hf
      rw [hf, getFlag_putFlag_other (by decide), h]
    · rfl
  rw [hforced]
  exact flagsAfter_putFlag ..

/-- What a call has stacked, and that RTS returns past it from any PC (R231, R232). -/
theorem rts_undoes_jsr (w pc' : Addr) {s t : State} (h0 : PlainRam s (stackSlot s.sp 0)) (h1 : PlainRam s (stackSlot s.sp 255))
    (ht : t = callSubroutine w s) :
    t.memByte (stackSlot s.sp 0) = highByte (s.pc - 1) ∧ t.memByte (stackSlot s.sp 255) = lowByte (s.pc - 1) ∧
      returnFromSubroutine (t.setPc pc') = (t.setPc s.pc).setSp s.sp := by
  rw [callSubroutine_plain w h0 h1] at ht
  have hsp : (t.setPc pc').sp = s.sp - 2 := by rw [ht]; rfl
  have hregions : t.regions = s.regions := by rw [ht]; rfl
  have hlow : stackSlot (s.sp - 2) 1 = stackSlot s.sp 255 := stackSlot_sub s.sp (by decide) (by decide)
  have hhigh : stackSlot (s.sp - 2) 2 = stackSlot s.sp 0 := stackSlot_sub s.sp (by decide) (by decide)
  have hm0 : t.memByte (stackSlot s.sp 0) = highByte (s.pc - 1) := by
    have hne : stackSlot s.sp 0 ≠ stackSlot s.sp 255 := stackSlot_ne s.sp (by decide) (by decide) (by decide)
    rw [ht]
    exact (State.memByte_memStore_other _ _ hne).trans (State.memByte_memStore_same ..)
  have hm1 : t.memByte (stackSlot s.sp 255) = lowByte (s.pc - 1) := by
    rw [ht]
    exact State.memByte_memStore_same ..
  have hu : ∀ {addr : Addr}, Unmatched s addr → Unmatched (t.setPc pc') addr := fun h r hr => h r (hregions ▸ hr)
  have hread : ∀ addr : Addr, (t.setPc pc').memByte addr = t.memByte addr := fun _ => rfl
  refine ⟨hm0, hm1, ?_⟩
  rw [returnFromSubroutine_plain (by rw [hsp, hlow]; exact hu h1.1) (by rw [hsp, hhigh]; exact hu h0.1), hsp, hlow, hhigh, hread, hread,
    hm0, hm1, addrOf_parts, BitVec.sub_add_cancel, BitVec.sub_add_cancel]
  rfl

/-- What a software interrupt has stacked, and that RTI returns past the padding byte from any PC (R259, R260). -/
theorem rti_undoes_brk (pc' : Addr) {s t : State} (h0 : PlainRam s (stackSlot s.sp 0)) (h1 : PlainRam s (stackSlot s.sp 255))
    (h2 : PlainRam s (stackSlot s.sp 254)) (v0 : Unmatched s 0xFFFE) (v1 : Unmatched s 0xFFFF) (ht : t = softwareInterrupt s) :
    t.memByte (stackSlot s.sp 254) = putFlag .b true s.p ∧
      returnFromInterrupt (t.setPc pc') = ((t.setPc (s.pc + 1)).setSp s.sp).setP (statusFrom (putFlag .b true s.p)) := by
  rw [softwareInterrupt_plain h0 h1 h2 v0 v1] at ht
  obtain ⟨hm0, hm1, hm2, -⟩ := entryMem_read (putFlag .b true s.p) (s.setPc (s.pc + 1))
  have hsp : (t.setPc pc').sp = s.sp - 3 := by rw [ht]; rfl
  have hregions : t.regions = s.regions := by rw [ht]; rfl
  have hstatus : stackSlot (s.sp - 3) 1 = stackSlot s.sp 254 := stackSlot_sub s.sp (by decide) (by decide)
  have hlow : stackSlot (s.sp - 3) 2 = stackSlot s.sp 255 := stackSlot_sub s.sp (by decide) (by decide)
  have hhigh : stackSlot (s.sp - 3) 3 = stackSlot s.sp 0 := stackSlot_sub s.sp (by decide) (by decide)
  have hread : ∀ addr : Addr, (t.setPc pc').memByte addr = (entryMem (putFlag .b true s.p) (s.setPc (s.pc + 1))).read addr.toNat := by
    rw [ht]
    exact fun _ => rfl
  have hu : ∀ {addr : Addr}, Unmatched s addr → Unmatched (t.setPc pc') addr := fun h r hr => h r (hregions ▸ hr)
  refine ⟨(hread _).trans hm2, ?_⟩
  simp only [State.setPc_sp, State.setPc_pc] at hm0 hm1 hm2
  rw [returnFromInterrupt_plain (by rw [hsp, hstatus]; exact hu h2.1) (by rw [hsp, hlow]; exact hu h1.1)
    (by rw [hsp, hhigh]; exact hu h0.1), hsp, hstatus, hlow, hhigh, hread, hread, hread, hm0, hm1, hm2, addrOf_parts,
    BitVec.sub_add_cancel]
  rfl

/-- Settles O39: each entry leaves in plain RAM what its return reads. -/
theorem returnsUndoEntries : Obligations.ReturnsUndoEntries := by
  unfold Obligations.ReturnsUndoEntries
  refine ⟨fun s w pc' h0 h1 => ?_, fun s pc' hunused h0 h1 h2 v0 v1 => ?_⟩
  · obtain ⟨hm0, hm1, hreturn⟩ := rts_undoes_jsr w pc' h0 h1 rfl
    refine ⟨callSubroutine w s, rfl, rfl, ?_, hm0, hm1, congrArg Host.Outcome.next hreturn⟩
    rw [callSubroutine_eq]
    rfl
  · obtain ⟨hm2, hreturn⟩ := rti_undoes_brk pc' h0 h1 h2 v0 v1 rfl
    refine ⟨softwareInterrupt s, rfl, ?_, ?_, _, flagsAfter_stackedStatus hunused, congrArg Host.Outcome.next hreturn⟩
    · rw [softwareInterrupt_plain h0 h1 h2 v0 v1]
      rfl
    · rw [hm2, getFlag_putFlag_same]

end Sys2Proof.Machine

/-! PROOFS. Memory as its bytes, the read-only bytes a step keeps, the Bus read and write over any matching regions, a timer on the Bus, and the
core's inputs. -/

namespace Sys2Proof.Machine

/-! ### Read-only bytes -/

theorem Kept.isReadOnly {s t : State} (h : Kept s t) (addr : Addr) : t.isReadOnly addr = s.isReadOnly addr := by
  unfold State.isReadOnly
  rw [h.readOnly]

/-- Settles O11: an instruction step keeps what the CPU cannot touch, and such a byte is part of that. -/
theorem readOnlyMemoryIsKept : Obligations.ReadOnlyMemoryIsKept := by
  unfold Obligations.ReadOnlyMemoryIsKept
  intro s t addr hro hback hstep
  obtain ⟨u, -, hs, hkept⟩ := instructionStep_kept s
  obtain rfl : _ = t := Host.Outcome.next.inj (hs.symm.trans hstep)
  exact ⟨hkept.bytes addr hro hback, (hkept.isReadOnly addr).trans hro, hkept.regions⟩

/-! ### Memory is its bytes -/

/-- Where addresses strictly rise, each cell is what its address reads as. -/
theorem Memory.read_of_mem {m : Memory} {c : Host.Cell} (hm : m.Pairwise (fun c d => c.1 < d.1)) (hc : c ∈ m) : m.read c.1 = c.2 := by
  induction m with
  | nil => cases hc
  | cons d m ih =>
    obtain ⟨hd, hm⟩ := List.pairwise_cons.1 hm
    rcases List.mem_cons.1 hc with rfl | hc
    · exact if_pos rfl
    · exact (if_neg (hd c hc).ne).trans (ih hm hc)

/-- A byte other than what an unlisted address reads as is listed. -/
theorem Memory.mem_of_read {m : Memory} {n : Nat} (h : m.read n ≠ unlistedByte) : (n, m.read n) ∈ m := by
  induction m with
  | nil => exact absurd rfl h
  | cons d m ih =>
    obtain ⟨k, b⟩ := d
    rw [Memory.read] at h ⊢
    split at h
    · rename_i hk
      rw [if_pos hk, hk]
      exact List.mem_cons_self
    · rename_i hk
      rw [if_neg hk]
      exact List.mem_cons_of_mem _ (ih h)

/-- The cells of a canonical memory are cells of any memory with the same bytes. -/
theorem Memory.subset_of_read_eq {m n : Memory} (hm : m.wf) (h : ∀ k, k < 65536 → m.read k = n.read k) : m ⊆ n := by
  intro c hc
  obtain ⟨hrising, hcells⟩ := hm
  obtain ⟨hlt, hlisted⟩ := hcells c hc
  have hread : n.read c.1 = c.2 := (h c.1 hlt).symm.trans (Memory.read_of_mem hrising hc)
  have hmem : (c.1, n.read c.1) ∈ n := Memory.mem_of_read (by rwa [hread])
  rwa [hread] at hmem

/-- Canonical memories with the same bytes are equal: both list the same cells, in the one rising order. -/
theorem Memory.ext_read {m n : Memory} (hm : m.wf) (hn : n.wf) (h : ∀ k, k < 65536 → m.read k = n.read k) : m = n :=
  List.Subset.antisymm_of_pairwise (r := InvImage (· < ·) Prod.fst) hm.1 hn.1 (Memory.subset_of_read_eq hm h)
    (Memory.subset_of_read_eq hn fun k hk => (h k hk).symm)

/-- Settles O44: canonical memories list the same cells in one order; a write by the laws of memory. -/
theorem memoryIsItsBytes : Obligations.MemoryIsItsBytes := by
  unfold Obligations.MemoryIsItsBytes
  exact ⟨fun m n => Memory.ext_read, fun m k v hm hk =>
    ⟨Memory.write_wf v hm hk, Memory.read_write_same m k v, fun j hj => Memory.read_write_other m v hj⟩⟩

/-! ### Callbacks of external devices -/

theorem takeAnswer_scripted (device : Nat) (addr : Addr) (written : Option Byte) {s : State} {answer : DeviceAnswer}
    {rest : List DeviceAnswer} (h : s.script = answer :: rest) : takeAnswer device addr written s = (answer, s.setScript rest) := by
  unfold takeAnswer
  rw [h]

theorem takeAnswer_free (device : Nat) (addr : Addr) (written : Option Byte) {s : State} (h : s.script = []) :
    takeAnswer device addr written s = (Config.deviceAnswer s.answered device addr written, s.setAnswered (s.answered + 1)) := by
  unfold takeAnswer
  rw [h]

/-- The read callback of an external device, from the answer it takes. -/
theorem readCallback_external {device : Nat} {addr : Addr} {s u : State} {answer : DeviceAnswer} (first : Addr)
    (h : takeAnswer device addr none s = (answer, u)) :
    readCallback (.external device) first addr s = (answer.byte, answer.calls.foldl (fun w c => runInput c w) u) := by
  simp only [readCallback, h, runInputs_eq_foldl]

/-- The write callback of an external device, from the answer it takes. -/
theorem writeCallback_external {device : Nat} {addr : Addr} {v : Byte} {s u : State} {answer : DeviceAnswer} (first : Addr)
    (h : takeAnswer device addr (some v) s = (answer, u)) :
    writeCallback (.external device) first addr v s = answer.calls.foldl (fun w c => runInput c w) u := by
  simp only [writeCallback, h, runInputs_eq_foldl]

/-! ### The Bus read -/

theorem Region.covers_iff {addr : Addr} {r : Region} :
    r.covers addr = true ↔ r.first.toNat ≤ addr.toNat ∧ addr.toNat ≤ r.last.toNat := by
  unfold Region.covers
  rw [Bool.and_eq_true, decide_eq_true_iff, decide_eq_true_iff]

theorem State.mem_matching {addr : Addr} {s : State} {r : Region} : r ∈ s.matching addr ↔ r ∈ s.regions ∧ r.covers addr = true :=
  List.mem_filter

/-- One region's part in a read, in the order of the device table: what is ORed in and the state so far. -/
def readInto (addr : Addr) (acc : Byte × State) (r : Region) : Byte × State :=
  match r.reader with
  | some client =>
    let got := readCallback client r.first addr acc.2
    (acc.1 ||| got.1, got.2)
  | none => acc

/-- The callbacks' OR may be gathered from the first region on. -/
theorem foldl_readInto (addr : Addr) (rs : List Region) (b : Byte) (s : State) :
    rs.foldl (readInto addr) (b, s) = (b ||| (readRegions addr rs s).1, (readRegions addr rs s).2) := by
  induction rs generalizing b s with
  | nil => exact congrArg (·, s) BitVec.or_zero.symm
  | cons r rs ih =>
    cases hr : r.reader with
    | none => simp only [List.foldl_cons, readInto, readRegions, hr, ih]
    | some client => simp only [List.foldl_cons, readInto, readRegions, hr, ih, BitVec.or_assoc]

theorem readRegions_eq_foldl (addr : Addr) (rs : List Region) (s : State) :
    readRegions addr rs s = rs.foldl (readInto addr) (0x00, s) := by
  simp only [foldl_readInto, BitVec.ofNat_eq_ofNat, BitVec.zero_or]

theorem readRegions_silent {addr : Addr} {rs : List Region} (s : State) (h : ∀ r ∈ rs, r.reader = none) :
    readRegions addr rs s = (0x00, s) := by
  induction rs with
  | nil => rfl
  | cons r rs ih =>
    rw [List.forall_mem_cons] at h
    simp only [readRegions, h.1, ih h.2]

/-- A Bus read where some region matches: the callbacks' OR, and memory as it was before them if a region backs it. -/
theorem busRead_matched {addr : Addr} {s : State} (h : s.matching addr ≠ []) :
    busRead addr s = ((readRegions addr (s.matching addr) s).1 |||
      (if ∃ r ∈ s.matching addr, r.backs = true then s.memByte addr else 0x00), (readRegions addr (s.matching addr) s).2) := by
  have hmem := (readRegions_onlyDevices addr (s.matching addr) s).memByte addr
  unfold busRead
  split
  · contradiction
  · dsimp only
    by_cases hback : ∃ r ∈ s.matching addr, r.backs = true
    · rw [if_pos (List.any_eq_true.2 hback), if_pos hback, hmem]
    · rw [if_neg (mt List.any_eq_true.1 hback), if_neg hback]
      simp only [BitVec.ofNat_eq_ofNat, BitVec.or_zero]

/-- A Bus read where one region matches. -/
theorem busRead_one {addr : Addr} {s : State} {r : Region} {c : Client} (h : s.matching addr = [r]) (hr : r.reader = some c) :
    busRead addr s = ((readCallback c r.first addr s).1 ||| (if r.backs = true then s.memByte addr else 0x00),
      (readCallback c r.first addr s).2) := by
  rw [busRead_matched (by simp [h]), h]
  simp only [readRegions, hr, BitVec.ofNat_eq_ofNat, BitVec.or_zero, List.mem_singleton, exists_eq_left]

/-- A Bus read where two regions match. -/
theorem busRead_two {addr : Addr} {s : State} {r1 r2 : Region} {c1 c2 : Client} (h : s.matching addr = [r1, r2])
    (h1 : r1.reader = some c1) (h2 : r2.reader = some c2) :
    let x1 := readCallback c1 r1.first addr s
    let x2 := readCallback c2 r2.first addr x1.2
    busRead addr s = ((x1.1 ||| x2.1) ||| (if r1.backs = true ∨ r2.backs = true then s.memByte addr else 0x00), x2.2) := by
  rw [busRead_matched (by simp [h]), h]
  simp only [readRegions, h1, h2, BitVec.ofNat_eq_ofNat, BitVec.or_zero, List.mem_cons, List.not_mem_nil, or_false, exists_eq_or_imp,
    exists_eq_left]

/-- A Bus read where regions match but none answers (D21). -/
theorem busRead_silent {addr : Addr} {s : State} (h : s.matching addr ≠ [])
    (hs : ∀ r ∈ s.matching addr, r.reader = none ∧ r.backs = false) : busRead addr s = (0x00, s) := by
  have hback : ¬ ∃ r ∈ s.matching addr, r.backs = true := by
    rintro ⟨r, hr, hb⟩
    rw [(hs r hr).2] at hb
    cases hb
  rw [busRead_matched h, readRegions_silent s (fun r hr => (hs r hr).1), if_neg hback]
  exact congrArg (·, s) BitVec.or_zero

/-- Settles O42: the regions' callbacks gathered in the order of the table, then one, two and no answers as cases of it. -/
theorem busReadValue : Obligations.BusReadValue := by
  unfold Obligations.BusReadValue
  intro s addr
  refine ⟨fun h => busRead_unmatched h.matching, fun h => ?_, fun r c => busRead_one, fun r1 r2 c1 c2 => busRead_two, busRead_silent,
    fun r => State.mem_matching.trans (and_congr_right' Region.covers_iff), fun device first => ⟨fun answer rest h => ?_, fun h => ?_⟩,
    busRead_onlyDevices addr s⟩
  · rw [busRead_matched h, readRegions_eq_foldl]
    rfl
  · exact readCallback_external first (takeAnswer_scripted device addr none h)
  · exact readCallback_external first (takeAnswer_free device addr none h)

/-! ### The Bus write -/

/-- One region's part in a write: the backed store, then the write callback (R58). -/
def writeInto (addr : Addr) (v : Byte) (u : State) (r : Region) : State :=
  let w := if r.backs = true then u.memStore addr v else u
  match r.writer with
  | some client => writeCallback client r.first addr v w
  | none => w

theorem writeRegions_eq_foldl (addr : Addr) (v : Byte) (rs : List Region) (s : State) :
    writeRegions addr v rs s = rs.foldl (writeInto addr v) s := by
  induction rs generalizing s with
  | nil => rfl
  | cons r rs ih => exact ih _

/-- A backing region's store is there after its callback, which does not reach memory. -/
theorem writeInto_memByte_of_backs {addr : Addr} {r : Region} (v : Byte) (s : State) (h : r.backs = true) :
    (writeInto addr v s r).memByte addr = v := by
  unfold writeInto
  rw [if_pos h]
  dsimp only
  split
  · rw [(writeCallback_onlyDevices ..).memByte, State.memByte_memStore_same]
  · exact State.memByte_memStore_same addr v s

theorem Stored.memByte_of_holds {addr : Addr} {v : Byte} {s t : State} (h : Stored addr v s t) (hs : s.memByte addr = v) :
    t.memByte addr = v :=
  h.memByte_same.elim (fun e => e.trans hs) id

/-- A backing region among those that match stores the byte, and no later region takes it back. -/
theorem writeRegions_memByte_of_backs {addr : Addr} (v : Byte) {rs : List Region} (s : State) (h : ∃ r ∈ rs, r.backs = true) :
    (writeRegions addr v rs s).memByte addr = v := by
  induction rs generalizing s with
  | nil => simp at h
  | cons r rs ih =>
    rcases (List.exists_mem_cons_iff ..).1 h with hr | hrs
    · exact (writeRegions_stored addr v rs _).memByte_of_holds (writeInto_memByte_of_backs v s hr)
    · exact ih _ hrs

/-- A Bus write as the regions' parts in the order of the table, then the fall-through store unless the byte is read-only. -/
theorem busWrite_eq_foldl (addr : Addr) (v : Byte) (s : State) :
    busWrite addr v s = if s.isReadOnly addr = true then (s.matching addr).foldl (writeInto addr v) s
      else ((s.matching addr).foldl (writeInto addr v) s).memStore addr v := by
  unfold busWrite
  dsimp only
  rw [(writeRegions_stored ..).isReadOnly, writeRegions_eq_foldl]

/-- A Bus write where one region matches. -/
theorem busWrite_one {addr : Addr} {s : State} {r : Region} {c : Client} (v : Byte) (h : s.matching addr = [r])
    (hw : r.writer = some c) :
    busWrite addr v s =
      let u := writeCallback c r.first addr v (if r.backs = true then s.memStore addr v else s)
      if s.isReadOnly addr = true then u else u.memStore addr v := by
  rw [busWrite_eq_foldl, h]
  simp only [List.foldl_cons, List.foldl_nil, writeInto, hw]

theorem busWrite_memByte_of_unbacked {addr : Addr} (v : Byte) {s : State} (hro : s.isReadOnly addr = true)
    (h : ∀ r ∈ s.matching addr, r.backs = false) : (busWrite addr v s).memByte addr = s.memByte addr :=
  (kept_busWrite addr v s).bytes addr hro fun r hr hc => h r (State.mem_matching.2 ⟨hr, hc⟩)

theorem busWrite_memByte_of_backed {addr : Addr} (v : Byte) {s : State} (hro : s.isReadOnly addr = true)
    (h : ∃ r ∈ s.matching addr, r.backs = true) : (busWrite addr v s).memByte addr = v := by
  rw [busWrite_eq_foldl, if_pos hro, ← writeRegions_eq_foldl]
  exact writeRegions_memByte_of_backs v s h

/-- Settles O43: the regions' parts in the order of the table; the byte itself by whether it is read-only and backed. -/
theorem busWriteEffect : Obligations.BusWriteEffect := by
  unfold Obligations.BusWriteEffect
  intro s addr v
  refine ⟨busWrite_memByte_same, busWrite_memByte_of_unbacked v, busWrite_memByte_of_backed v,
    fun k hk => (busWrite_stored addr v s).memByte_other hk, busWrite_eq_foldl addr v s, fun r c => busWrite_one v,
    fun device first => ⟨fun answer rest h => ?_, fun h => ?_⟩, (busWrite_stored addr v s).devices⟩
  · exact writeCallback_external first (takeAnswer_scripted device addr (some v) h)
  · exact writeCallback_external first (takeAnswer_free device addr (some v) h)

/-! ### A timer on the Bus -/

theorem timerRegion_covers {i : Nat} {base addr : Addr} (hb : base.toNat ≤ 0xFFF0) (h : base.toNat ≤ addr.toNat)
    (k : addr.toNat < base.toNat + 16) : (timerRegion i base).covers addr = true := by
  have hlast : (timerRegion i base).last.toNat = base.toNat + 15 := timerRegion_last_toNat hb
  exact Region.covers_iff.2 ⟨h, by omega⟩

theorem readCallback_timer {i : Nat} {t : Timer} {s : State} (first addr : Addr) (h : s.timers[i]? = some t) :
    readCallback (.timer i) first addr s = ((t.readRegister s.params (timerRegAt (addr - first))).1,
      s.setTimers (s.timers.set i (t.readRegister s.params (timerRegAt (addr - first))).2)) := by
  simp only [readCallback, h]

theorem modifyTimer_eq_set {i : Nat} {t : Timer} {s : State} (f : Timer → Timer) (h : s.timers[i]? = some t) :
    s.modifyTimer i f = s.setTimers (s.timers.set i (f t)) := by
  unfold State.modifyTimer
  rw [List.modify_eq_set_getElem?, h]
  rfl

/-- Settles O59: its region is the only one that matches, and its register is found by the offset. -/
theorem timerOnTheBus : Obligations.TimerOnTheBus := by
  unfold Obligations.TimerOnTheBus
  intro s i t base addr v ht hbase hlow hhigh hmatch
  refine ⟨timerRegion_covers hbase hlow hhigh, timerRegAt (addr - base), timerRegAt_eq hlow hhigh, ?_, ?_⟩
  · rw [busRead_one hmatch rfl, readCallback_timer _ addr ht]
    exact congrArg (·, _) BitVec.or_zero
  · have hcall : writeCallback (.timer i) base addr v s
        = s.setTimers (s.timers.set i (t.writeRegister s.params (timerRegAt (addr - base)) v)) := modifyTimer_eq_set _ ht
    have hwrite : busWrite addr v s = if s.isReadOnly addr = true then writeCallback (.timer i) base addr v s
        else (writeCallback (.timer i) base addr v s).memStore addr v := busWrite_one v hmatch rfl
    rw [hwrite, hcall]
    split <;> rfl

/-! ### The core's inputs -/

/-- Settles O51: each input by its definition, the one timer it reaches by the laws of `List.modify`. -/
theorem interruptInputs : Obligations.InterruptInputs := by
  unfold Obligations.InterruptInputs
  refine ⟨fun s => ⟨⟨putFlag .b false s.p, flagsAfter_putFlag .b false s.p, rfl, rfl⟩, rfl, fun i port op mask =>
    ⟨s.timers.modify i (Timer.setInputPort port op mask), rfl, List.length_modify .., fun k hk => ?_⟩⟩,
    fun s turns c h => step_hostTurn h⟩
  rw [List.getElem?_modify, List.getElem?_eq_getElem hk]
  by_cases hki : k = i
  · simp [hki]
  · simp [hki, Ne.symm hki]

end Sys2Proof.Machine

/-! PROOFS. The encoding: the decoder by the kind of the table entry, the instruction each entry makes, and the round trip in both directions. -/

namespace Sys2Proof

/-! ### The decoder, by the kind of the table entry -/

section
variable {op : Byte}

theorem decode_one {i : Instr} (h : opcodeEntry op = .one i) (rest : List Byte) : decode (op :: rest) = .ok (i, rest) := by
  simp only [decode, h]

theorem decode_two {f : Byte → Instr} (h : opcodeEntry op = .two f) (b : Byte) (rest : List Byte) :
    decode (op :: b :: rest) = .ok (f b, rest) := by
  simp only [decode, h]

theorem decode_two_short {f : Byte → Instr} (h : opcodeEntry op = .two f) : decode [op] = .error .missingOperand := by
  simp only [decode, h]

theorem decode_three {f : Addr → Instr} (h : opcodeEntry op = .three f) (lo hi : Byte) (rest : List Byte) :
    decode (op :: lo :: hi :: rest) = .ok (f (addrOf lo hi), rest) := by
  simp only [decode, h]

theorem decode_three_short {f : Addr → Instr} (h : opcodeEntry op = .three f) {rest : List Byte} (hlen : rest.length < 2) :
    decode (op :: rest) = .error .missingOperand := by
  match rest, hlen with
  | [], _ => simp only [decode, h]
  | [_], _ => simp only [decode, h]

end

/-! ### The table entry of an instruction's opcode -/

/-- An entry makes an instruction from operand bytes, in the three formats of R90. -/
inductive OpcodeEntry.Makes : OpcodeEntry → List Byte → Instr → Prop
  | one (i : Instr) : Makes (.one i) [] i
  | two (f : Byte → Instr) (b : Byte) : Makes (.two f) [b] (f b)
  | three (f : Addr → Instr) (w : Addr) : Makes (.three f) [lowByte w, highByte w] (f w)

/-- The slot of an instruction's opcode in the matrix of R96 makes that instruction from its operand bytes. -/
theorem opcodeEntry_makes (i : Instr) : (opcodeEntry i.opcode).Makes i.shape.operandBytes i := by
  -- The opcode must stand as a literal before the slot can be looked up beside a free operand.
  cases i <;> dsimp only [Instr.opcode] <;> constructor

/-- Operand bytes from which an opcode's entry makes an instruction are decoded to it, whatever follows. -/
theorem decode_of_makes {op : Byte} {operands : List Byte} {i : Instr} (h : (opcodeEntry op).Makes operands i) (rest : List Byte) :
    decode (op :: operands ++ rest) = .ok (i, rest) := by
  generalize he : opcodeEntry op = e at h
  cases h with
  | one => exact decode_one he rest
  | two f b => exact decode_two he b rest
  | three f w => exact (decode_three he _ _ rest).trans (by rw [addrOf_parts])

/-- Settles O1: the opcode's entry makes the instruction from its operand bytes, and the decoder follows the entry. -/
theorem decodeOfEncode : Obligations.DecodeOfEncode := by
  unfold Obligations.DecodeOfEncode
  exact fun i rest => decode_of_makes (opcodeEntry_makes i) rest

/-- Settles O2: the empty string decodes to nothing; any other by what its opcode byte announces. -/
theorem encodeOfDecode : Obligations.EncodeOfDecode := by
  unfold Obligations.EncodeOfDecode
  intro bytes rest i h
  cases bytes with
  | nil => cases h
  | cons op tail => exact (decode_encoding h).1

/-- Settles O3: the length is that of the opcode's entry. -/
theorem decoderIsTotal : Obligations.DecoderIsTotal := by
  unfold Obligations.DecoderIsTotal
  intro op
  rcases opcodeEntry_cases op with ⟨i, he, -, hop, hlen⟩ | ⟨f, he, hf⟩ | ⟨f, he, hf⟩
  · exact ⟨1, by decide, by decide, fun rest _ => ⟨i, rest, decode_one he rest, hop, hlen⟩, fun rest hshort => by omega⟩
  · refine ⟨2, by decide, by decide, fun rest hlong => ?_, fun rest hshort => ?_⟩
    · match rest, hlong with
      | b :: tail, _ => exact ⟨f b, tail, decode_two he b tail, (hf b).2⟩
    · obtain rfl : rest = [] := List.length_eq_zero_iff.1 (by omega)
      exact ⟨_, decode_two_short he⟩
  · refine ⟨3, by decide, by decide, fun rest hlong => ?_, fun rest hshort => ?_⟩
    · match rest, hlong with
      | lo :: hi :: tail, _ => exact ⟨f (addrOf lo hi), tail, decode_three he lo hi tail, (hf lo hi).2⟩
    · exact ⟨_, decode_three_short he (by omega)⟩

/-- An instruction's bytes alone decode to it. -/
theorem decode_of_encode_eq {i : Instr} {bytes : List Byte} (h : encode i = bytes) : decode bytes = .ok (i, []) := by
  rw [← h, ← List.append_nil (encode i)]
  exact decodeOfEncode i []

/-- Settles O4: each word is the encoding of the instruction it stands for. -/
theorem sampleWords : Obligations.SampleWords := by
  unfold Obligations.SampleWords
  and_intros <;> exact decode_of_encode_eq rfl

end Sys2Proof

/-! PROOFS. No instruction or step stops, and the host's loop over steps. -/

namespace Sys2Proof.Machine

/-! ### Every step answers -/

theorem instructionStep_answers (s : State) : ∃ t, instructionStep s = .next t := by
  obtain ⟨t, -, hs, -⟩ := instructionStep_kept s
  exact ⟨_, hs⟩

/-- Settles O8: every meaning answers by what it reaches, and a step is an instruction's or a turn of the host. -/
theorem nothingStops : Obligations.NothingStops := by
  unfold Obligations.NothingStops
  refine ⟨fun i s => ?_, fun s => ?_⟩
  · obtain ⟨t, ht, -⟩ := exec_reaches i s
    exact ⟨t, ht⟩
  · match hturns : s.agenda with
    | [] => exact step_noTurn hturns ▸ instructionStep_answers s
    | .instruction :: turns => exact step_instructionTurn hturns ▸ instructionStep_answers (s.setAgenda turns)
    | .host op :: turns => exact ⟨_, step_hostTurn hturns⟩

/-! ### The loop of `execute` -/

/-- An instruction costs at least its base value (R123). -/
theorem baseCycles_le_cyclesOf (i : Instr) (s : State) : baseCycles s.params i.opcode ≤ cyclesOf i s := Nat.le_add_right ..

/-- In a machine whose base values are positive, the next instruction costs something (R127). -/
theorem nextCycles_pos {s : State} (h : WellSupplied s.params) : 1 ≤ nextCycles s := by
  have hfetch : (fetch s).2.params = s.params := (reaches_fetch s).1.params
  exact (hfetch ▸ h.positive _).trans (baseCycles_le_cyclesOf ..)

theorem executeLoop_done {budget : Int} (h : budget ≤ 0) (fuel : Nat) (s : State) : executeLoop fuel budget s = .next s := by
  cases fuel with
  | zero => rfl
  | succ fuel => exact if_neg (not_lt.2 h)

theorem executeLoop_next {budget : Int} {s t : State} (h : 0 < budget) (hs : instructionStep s = .next t) (fuel : Nat) :
    executeLoop (fuel + 1) budget s = executeLoop fuel (budget - nextCycles s) t := by
  rw [executeLoop, if_pos h, hs]

/-- The bound on the number of steps is not felt: any two that cover the budget give the same run, because every step spends some of the
budget (R127). -/
theorem executeLoop_fuel {s : State} {budget : Int} {m n : Nat} (h : WellSupplied s.params) (hm : budget ≤ m) (hn : budget ≤ n) :
    executeLoop m budget s = executeLoop n budget s := by
  induction m generalizing n budget s with
  | zero => rw [executeLoop_done hm, executeLoop_done hm]
  | succ m ih =>
    rcases le_or_gt budget 0 with hdone | hpos
    · rw [executeLoop_done hdone, executeLoop_done hdone]
    · obtain ⟨k, rfl⟩ : ∃ k, n = k + 1 := Nat.exists_eq_succ_of_ne_zero (by omega)
      obtain ⟨_, -, hs, hkept⟩ := instructionStep_kept s
      have hcost := nextCycles_pos h
      rw [executeLoop_next hpos hs, executeLoop_next hpos hs]
      exact ih (hkept.params ▸ h) (by omega) (by omega)

/-- One turn of "while budget > 0" (R122). -/
theorem execute_next {budget : Int} {s t : State} (h : WellSupplied s.params) (ht : WellSupplied t.params) (hpos : 0 < budget)
    (hs : instructionStep s = .next t) : execute budget s = execute (budget - nextCycles s) t := by
  obtain ⟨fuel, hfuel⟩ : ∃ fuel, budget.toNat = fuel + 1 := Nat.exists_eq_succ_of_ne_zero (by omega)
  have hcost := nextCycles_pos h
  unfold execute
  rw [hfuel, executeLoop_next hpos hs]
  exact executeLoop_fuel ht (by omega) (by omega)

/-- Settles O13: one turn of the loop, with the step that `instructionStep_kept` gives. -/
theorem executeIsTheWhileLoop : Obligations.ExecuteIsTheWhileLoop := by
  unfold Obligations.ExecuteIsTheWhileLoop
  refine ⟨defaultBaseCycles_pos, fun budget s h => executeLoop_done h _ s, fun budget s h hpos => ?_⟩
  obtain ⟨u, hu, hs, hkept⟩ := instructionStep_kept s
  exact ⟨u, hu, hs, rfl, execute_next h (hkept.params ▸ h) hpos hs⟩

end Sys2Proof.Machine

/-! PROOFS. Effective addresses and operand accesses in plain arithmetic, and the instructions that set PC from an operand. -/

namespace Sys2Proof.Machine

/-! ### Effective addresses -/

theorem zeroPage_toNat (b : Byte) : (zeroPage b).toNat = b.toNat := BitVec.toNat_setWidth_of_le (by decide)

theorem add_index_toNat (base : Addr) (index : Byte) : (base + index.setWidth 16).toNat = (base.toNat + index.toNat) % 65536 := by
  rw [BitVec.toNat_add, BitVec.toNat_setWidth_of_le (by decide)]

theorem addrOf_page (lo hi : Byte) : (addrOf lo hi).toNat / 256 = hi.toNat := by
  rw [← highByte_toNat, highByte_addrOf]

/-- An indexed address, with the crossing of R125 as a comparison of page numbers. -/
theorem indexed_eq (base : Addr) (index : Byte) (s : State) :
    ∃ ea, indexed base index s = ⟨ea, decide (ea.toNat / 256 ≠ base.toNat / 256), s⟩ ∧
      ea.toNat = (base.toNat + index.toNat) % 65536 :=
  ⟨_, congrArg (Resolved.mk _ · s) (differentPage_eq ..), add_index_toNat base index⟩

/-- The address `izy` makes from the two bytes of its pointer (R140). -/
theorem indexed_addrOf (lo hi index : Byte) (s : State) :
    ∃ ea, indexed (addrOf lo hi) index s = ⟨ea, decide (ea.toNat / 256 ≠ hi.toNat), s⟩ ∧
      ea.toNat = (256 * hi.toNat + lo.toNat + index.toNat) % 65536 := by
  have h := indexed_eq (addrOf lo hi) index s
  rwa [addrOf_page, addrOf_toNat] at h

/-- A zero-page pointer indexed by X, both of its addresses wrapping in page zero (R139). -/
theorem zeroPagePointer_indexed (b x : Byte) (s : State) : zeroPagePointer (b + x) s =
    let lo := busRead (BitVec.ofNat 16 ((b.toNat + x.toNat) % 256)) s
    let hi := busRead (BitVec.ofNat 16 ((b.toNat + x.toNat + 1) % 256)) lo.2
    (addrOf lo.1 hi.1, hi.2) := by
  rw [zeroPagePointer_eq, BitVec.toNat_add, Nat.mod_add_mod]

theorem resolve_izx (b : Byte) (s : State) :
    resolve (.izx b) s = ⟨(zeroPagePointer (b + s.x) s).1, false, (zeroPagePointer (b + s.x) s).2⟩ := rfl

theorem resolve_izp (b : Byte) (s : State) :
    resolve (.izp b) s = ⟨(zeroPagePointer b s).1, false, (zeroPagePointer b s).2⟩ := rfl

theorem resolve_izy (b : Byte) (s : State) :
    resolve (.izy b) s = indexed (zeroPagePointer b s).1 s.y (zeroPagePointer b s).2 := rfl

/-- Settles O15, mode by mode: the zero-page sums, the indexed addresses, and the pointers as two Bus reads. -/
theorem effectiveAddresses : Obligations.EffectiveAddresses := by
  unfold Obligations.EffectiveAddresses
  intro s b w
  have hzp : ∀ index : Byte, (zeroPage (b + index)).toNat = (b.toNat + index.toNat) % 256 :=
    fun index => (zeroPage_toNat _).trans (BitVec.toNat_add ..)
  refine ⟨⟨_, rfl, zeroPage_toNat b⟩, ⟨_, rfl, hzp s.x⟩, ⟨_, rfl, hzp s.y⟩, rfl, indexed_eq w s.x s, indexed_eq w s.y s, ?_, ?_, ?_⟩
  · rw [resolve_izx, zeroPagePointer_indexed]
    exact ⟨_, rfl, addrOf_toNat ..⟩
  · rw [resolve_izp, zeroPagePointer_eq]
    exact ⟨_, rfl, addrOf_toNat ..⟩
  · rw [resolve_izy, zeroPagePointer_eq]
    exact indexed_addrOf ..

/-! ### Operand accesses -/

/-- Settles O16: each operand access is by definition its Bus accesses, in this order. -/
theorem operandAccesses : Obligations.OperandAccesses := by
  unfold Obligations.OperandAccesses
  exact ⟨fun _ _ => rfl, fun _ _ => rfl, fun _ _ _ => rfl, fun _ _ _ _ _ => rfl⟩

/-! ### Branches -/

theorem branch_eq (c : Cond) (d : Byte) (s : State) :
    branch c d s = s.setPc (if condHolds c s.p = true then branchTarget d s.pc else s.pc) := by
  unfold branch
  split <;> rfl

/-- The cycles a branch adds, by the page of its target (R124, R220). -/
theorem branchPenalty_eq_of_target (c : Cond) (d : Byte) (s : State) : branchPenalty c d s =
    if condHolds c s.p = true then (if (branchTarget d s.pc).toNat / 256 = s.pc.toNat / 256 then 1 else 2) else 0 := by
  unfold branchPenalty
  rw [differentPage_eq]
  by_cases hpage : (branchTarget d s.pc).toNat / 256 = s.pc.toNat / 256 <;> simp [hpage]

/-- The instructions of an opcode byte are the branches on the condition. -/
structure BranchesOn (c : Cond) (i : Byte → Instr) (op : Byte) : Prop where
  encoded : ∀ d, EncodedAs (i d) [op, d] .rel 2 2
  opcode : ∀ d, (i d).opcode = op
  shape : ∀ d, (i d).shape = .relative c d
  meaning : ∀ d s, exec (i d) s = .next (branch c d s)

theorem BranchesOn.cycles {c : Cond} {i : Byte → Instr} {op : Byte} (h : BranchesOn c i op) (d : Byte) (s : State) :
    cyclesOf (i d) s = baseCycles s.params op + branchPenalty c d s := by
  simp only [cyclesOf, h.shape, h.opcode]

/-- The test of a row of `branchRows`: one flag compared with a value, or none. -/
def testHolds (test : Option (Flag × Bool)) (p : Byte) : Bool :=
  match test with
  | some (f, v) => decide (getFlag f p = v)
  | none => true

/-- Each row's instruction branches on a condition that is the row's test (R221 to R229). -/
theorem branchRows_branchesOn : ∀ row ∈ branchRows, ∃ c, BranchesOn c row.1 row.2.1 ∧ ∀ p, condHolds c p = testHolds row.2.2 p := by
  have hset : ∀ (f : Flag) (p : Byte), getFlag f p = testHolds (some (f, true)) p := fun _ _ => Bool.decide_eq_true.symm
  have hclear : ∀ (f : Flag) (p : Byte), (!getFlag f p) = testHolds (some (f, false)) p := fun _ _ => Bool.decide_eq_false.symm
  simp only [branchRows, List.forall_mem_cons]
  refine ⟨⟨.pl, ?_, hclear .n⟩, ⟨.mi, ?_, hset .n⟩, ⟨.vc, ?_, hclear .v⟩, ⟨.vs, ?_, hset .v⟩, ⟨.cc, ?_, hclear .c⟩,
    ⟨.cs, ?_, hset .c⟩, ⟨.ne, ?_, hclear .z⟩, ⟨.eq, ?_, hset .z⟩, ⟨.always, ?_, fun _ => rfl⟩, List.forall_mem_nil _⟩
  all_goals exact ⟨fun _ => encodedAs_intro rfl rfl rfl rfl rfl, fun _ => rfl, fun _ => rfl, fun _ _ => rfl⟩

/-- Settles O31: every row is a branch on its test, to the target of R143. -/
theorem branchInstructions : Obligations.BranchInstructions := by
  unfold Obligations.BranchInstructions
  intro row hrow d
  obtain ⟨c, hbranch, hcond⟩ := branchRows_branchesOn row hrow
  refine ⟨hbranch.encoded d, fun s => ⟨branchTarget d s.pc, branchTarget_toNat d s.pc, ?_, ?_⟩⟩
  · rw [hbranch.meaning, branch_eq, hcond]
    rfl
  · rw [hbranch.cycles, branchPenalty_eq_of_target, hcond]
    rfl

/-! ### Jumps -/

/-- An indexed pointer of a jump, from the sum modulo 65536 (R141). -/
theorem add_index_eq_ofNat (base : Addr) (index : Byte) :
    base + index.setWidth 16 = BitVec.ofNat 16 ((base.toNat + index.toNat) % 65536) := by
  rw [← add_index_toNat, BitVec.ofNat_toNat, BitVec.setWidth_eq]

theorem jump_ind (w : Addr) (s : State) : jump (.ind w) s = (busReadWord w s).2.setPc (busReadWord w s).1 := rfl

theorem jump_iax (w : Addr) (s : State) : jump (.iax w) s = jump (.ind (w + s.x.setWidth 16)) s := rfl

/-- Settles O32: a pointer is a word read through the Bus, for `iax` at the indexed address. -/
theorem jumpInstructions : Obligations.JumpInstructions := by
  unfold Obligations.JumpInstructions
  intro lo hi
  refine ⟨⟨?_, ?_, ?_⟩, addrOf_toNat lo hi, fun s => ⟨rfl, ?_, ?_⟩⟩
  iterate 3 exact encodedAs_intro rfl rfl rfl rfl rfl
  · exact congrArg Host.Outcome.next (jump_ind _ s)
  · rw [← addrOf_toNat, ← add_index_eq_ofNat]
    exact congrArg Host.Outcome.next ((jump_iax _ s).trans (jump_ind _ s))

end Sys2Proof.Machine

/-! PROOFS. Loads, stores and transfers: a load and a transfer put one value into a register and set Z and N from it; a store is one Bus
write, and its rows' base values are none that a page crossing adds a cycle to. -/

namespace Sys2Proof.Machine

/-! ### Putting a value into a register -/

/-- An instruction that loads A leaves the value there and Z and N from it (R26, R160). -/
theorem exec_loadA {i : Instr} {s t : State} {v : Byte} (h : exec i s = .next (loadA v t)) :
    ∃ p', FlagsAfter t.p p' (zn v) ∧ exec i s = .next { t with a := v, p := p' } :=
  ⟨_, flagsAfter_putZN v t.p, h⟩

/-- An instruction that loads X leaves the value there and Z and N from it (R26, R160). -/
theorem exec_loadX {i : Instr} {s t : State} {v : Byte} (h : exec i s = .next (loadX v t)) :
    ∃ p', FlagsAfter t.p p' (zn v) ∧ exec i s = .next { t with x := v, p := p' } :=
  ⟨_, flagsAfter_putZN v t.p, h⟩

/-- An instruction that loads Y leaves the value there and Z and N from it (R26, R160). -/
theorem exec_loadY {i : Instr} {s t : State} {v : Byte} (h : exec i s = .next (loadY v t)) :
    ∃ p', FlagsAfter t.p p' (zn v) ∧ exec i s = .next { t with y := v, p := p' } :=
  ⟨_, flagsAfter_putZN v t.p, h⟩

/-! ### Loads -/

/-- Settles O18: every row puts the byte its source reads into its register. -/
theorem loadInstructions : Obligations.LoadInstructions := by
  unfold Obligations.LoadInstructions
  obtain ⟨hlda, hldx, hldy, -⟩ := readsAs_rows
  refine ⟨fun f hf b1 b2 => ?_, fun f hf b1 b2 => ?_, fun f hf b1 b2 => ?_⟩
  · obtain ⟨hencoded, hexec⟩ := hlda f hf b1 b2
    exact ⟨hencoded, fun s => exec_loadA (hexec s)⟩
  · obtain ⟨hencoded, hexec⟩ := hldx f hf b1 b2
    exact ⟨hencoded, fun s => exec_loadX (hexec s)⟩
  · obtain ⟨hencoded, hexec⟩ := hldy f hf b1 b2
    exact ⟨hencoded, fun s => exec_loadY (hexec s)⟩

/-! ### Stores -/

/-- An instruction's opcode is the first byte of its row. -/
theorem MemForm.Encoded.opcode {f : MemForm} {b1 b2 : Byte} (h : f.Encoded b1 b2) : (f.instr b1 b2).opcode = f.op := by
  obtain ⟨-, hencode, -⟩ := h
  exact (List.cons.inj hencode).1

/-- Every row's instruction has the row's memory operand, to which R124 adds no cycle at the row's base value. -/
def NeverPenalised (forms : List MemForm) : Prop :=
  ∀ f ∈ forms, ∀ b1 b2, (f.instr b1 b2).shape = .memory (f.operand b1 b2) ∧ ∀ s, indexPenalty f.base (f.operand b1 b2) s = 0

/-- The stores' `abx` and `aby` rows have base 5, where R124 adds a cycle at base 4, and their `izy` row base 6, where it does at base 5. -/
theorem neverPenalised_rows : NeverPenalised staForms ∧ NeverPenalised stxForms ∧ NeverPenalised styForms ∧ NeverPenalised stzForms := by
  simp only [NeverPenalised, staForms, stxForms, styForms, stzForms, List.forall_mem_cons, List.not_mem_nil, false_implies,
    implies_true, and_true]
  and_intros
  all_goals exact fun b1 b2 => ⟨rfl, fun _ => rfl⟩

theorem NeverPenalised.cyclesOf_eq_base {forms : List MemForm} (h : NeverPenalised forms) {f : MemForm} (hf : f ∈ forms) {b1 b2 : Byte}
    {s : State} (hop : (f.instr b1 b2).opcode = f.op) (hbase : baseCycles s.params f.op = f.base) :
    cyclesOf (f.instr b1 b2) s = f.base := by
  obtain ⟨hshape, hpenalty⟩ := h f hf b1 b2
  simp only [cyclesOf, hshape, hop, hbase, hpenalty, Nat.add_zero]

/-- The rows of a store of `value`: encoding, one Bus write, and the row's cycles. -/
theorem ActsAs.storesValue {forms : List MemForm} {value : State → Byte} (h : ActsAs forms fun o s => storeTo o (value s) s)
    (hcycles : NeverPenalised forms) : ∀ f ∈ forms, ∀ b1 b2, f.Encoded b1 b2 ∧ ∀ s : State,
      let r := resolve (f.operand b1 b2) s
      exec (f.instr b1 b2) s = .next (busWrite r.ea (value s) r.state) ∧
        (baseCycles s.params f.op = f.base → cyclesOf (f.instr b1 b2) s = f.base) := by
  intro f hf b1 b2
  obtain ⟨hencoded, hexec⟩ := h f hf b1 b2
  exact ⟨hencoded, fun s => ⟨hexec s, hcycles.cyclesOf_eq_base hf hencoded.opcode⟩⟩

/-- Settles O19: each table stores its register, STZ zero. -/
theorem storeInstructions : Obligations.StoreInstructions := by
  unfold Obligations.StoreInstructions
  obtain ⟨hsta, hstx, hsty, hstz, -⟩ := actsAs_rows
  obtain ⟨hstaCycles, hstxCycles, hstyCycles, hstzCycles⟩ := neverPenalised_rows
  exact ⟨hsta.storesValue hstaCycles, hstx.storesValue hstxCycles, hsty.storesValue hstyCycles,
    ActsAs.storesValue (value := fun _ => 0x00) hstz hstzCycles⟩

/-! ### Transfers -/

/-- Settles O20: each transfer puts the source register into its destination, TXS without the flags. -/
theorem transferInstructions : Obligations.TransferInstructions := by
  unfold Obligations.TransferInstructions
  refine ⟨⟨?_, ?_, ?_, ?_, ?_, ?_⟩, fun s =>
    ⟨exec_loadX rfl, exec_loadY rfl, exec_loadA rfl, exec_loadA rfl, exec_loadX rfl, rfl⟩⟩
  iterate 6 exact encodedAs_intro rfl rfl rfl rfl rfl

end Sys2Proof.Machine

/-! PROOFS. The binary adder, the compares, and increments and decrements: a compare reads its source once and writes C, Z and N; an increment or
decrement in memory is one read and one write, in a register one load. -/

namespace Sys2Proof.Machine

/-! ### The binary adder -/

/-- The adder's overflow as a bit mask (R182); the model writes the same test as a Boolean. -/
theorem adcBin_overflow_mask (a m : Byte) (c : Bool) :
    (adcBin a m c).overflow =
      decide ((a ^^^ (adcBin a m c).result) &&& (m ^^^ (adcBin a m c).result) &&& 0x80 ≠ 0) :=
  decide_not.symm

/-- Overflow: the operands have one sign and the result the other (R182). -/
theorem adcBin_overflow_iff_signs (a m : Byte) (c : Bool) :
    (adcBin a m c).overflow = true ↔ a.msb = m.msb ∧ (adcBin a m c).result.msb ≠ a.msb := by
  have hsigns : ∀ x y r : Bool, ((x ^^ r) && (y ^^ r)) = true ↔ x = y ∧ r ≠ x := by decide
  rw [adcBin_overflow_bits]
  simp only [BitVec.msb_eq_getLsbD_last]
  exact hsigns ..

/-- Settles O21: the result and the carry by definition, the overflow read three ways. -/
theorem binaryAdder : Obligations.BinaryAdder := by
  unfold Obligations.BinaryAdder
  intro a m c
  refine ⟨adcBin_result_toNat a m c, rfl, adcBin_overflow_mask a m c, adcBin_overflow_iff_signs a m c, ?_⟩
  rw [adcBin_overflow_signed, decide_eq_true_iff]

/-! ### Compares -/

/-- The rows of a compare of `reg`: encoding, and one read of the source, then C, Z and N. -/
theorem ReadsAs.compares {forms : List ReadForm} {reg : State → Byte} (h : ReadsAs forms fun src s => compare (reg s) src s) :
    ∀ f ∈ forms, ∀ b1 b2, f.Encoded b1 b2 ∧ ∀ s : State,
      let got := readSource (f.source b1 b2) s
      ∃ p', FlagsAfter got.2.p p' [(.c, decide ((reg s).toNat ≥ got.1.toNat)), (.z, decide ((reg s).toNat = got.1.toNat)),
          (.n, decide (((reg s).toNat + 256 - got.1.toNat) % 256 ≥ 128))] ∧
        exec (f.instr b1 b2) s = .next { got.2 with p := p' } := by
  intro f hf b1 b2
  obtain ⟨hencoded, hexec⟩ := h f hf b1 b2
  exact ⟨hencoded, fun s => ⟨_, flagsAfter_putCompare .., hexec s⟩⟩

/-- Settles O25: each table compares its register. -/
theorem compareInstructions : Obligations.CompareInstructions := by
  unfold Obligations.CompareInstructions
  obtain ⟨-, -, -, hcmp, hcpx, hcpy, -⟩ := readsAs_rows
  exact ⟨hcmp.compares, hcpx.compares, hcpy.compares⟩

/-! ### Increments and decrements -/

theorem add_one_toNat (v : Byte) : (v + 1).toNat = (v.toNat + 1) % 256 := BitVec.toNat_add v 1

theorem sub_one_toNat (v : Byte) : (v - 1).toNat = (v.toNat + 255) % 256 := by
  rw [Nat.add_comm]
  exact BitVec.toNat_sub v 1

/-- The rows of a read-modify-write that stores `result v` for the byte `v`, then sets Z and N from it (R190, R191). -/
theorem ActsAs.storesResult {forms : List MemForm} {result : Byte → Byte} {k : Nat}
    (h : ActsAs forms (modifyMemory (fun v _ => result v) (fun _ p => p) (fun v p => putZN (result v) p)))
    (hresult : ∀ v, (result v).toNat = (v.toNat + k) % 256) : ∀ f ∈ forms, ∀ b1 b2, f.Encoded b1 b2 ∧ ∀ s : State,
      let r := resolve (f.operand b1 b2) s
      let got := busRead r.ea r.state
      ∃ v : Byte, v.toNat = (got.1.toNat + k) % 256 ∧ ∃ p', FlagsAfter (busWrite r.ea v got.2).p p' (zn v) ∧
        exec (f.instr b1 b2) s = .next { busWrite r.ea v got.2 with p := p' } := by
  intro f hf b1 b2
  obtain ⟨hencoded, hexec⟩ := h f hf b1 b2
  exact ⟨hencoded, fun s => ⟨_, hresult _, _, flagsAfter_putZN .., hexec s⟩⟩

/-- Settles O26: the memory forms by their tables, the others as loads of the register plus or minus one. -/
theorem incrementAndDecrement : Obligations.IncrementAndDecrement := by
  unfold Obligations.IncrementAndDecrement
  obtain ⟨-, -, -, -, hinc, hdec, -⟩ := actsAs_rows
  refine ⟨ActsAs.storesResult (result := (· + 1)) hinc add_one_toNat, ActsAs.storesResult (result := (· - 1)) hdec sub_one_toNat,
    ⟨?_, ?_, ?_, ?_, ?_, ?_⟩, fun s => ⟨⟨_, add_one_toNat s.a, exec_loadA rfl⟩, ⟨_, sub_one_toNat s.a, exec_loadA rfl⟩,
      ⟨_, add_one_toNat s.x, exec_loadX rfl⟩, ⟨_, add_one_toNat s.y, exec_loadY rfl⟩, ⟨_, sub_one_toNat s.x, exec_loadX rfl⟩,
      ⟨_, sub_one_toNat s.y, exec_loadY rfl⟩⟩⟩
  iterate 6 exact encodedAs_intro rfl rfl rfl rfl rfl

end Sys2Proof.Machine

/-! PROOFS. Logic, bit tests, shifts and rotates: a logic instruction is one read and one load of A, BIT one read and the flags; TRB, TSB and
the shifts of memory are one read, the flags, and one write. -/

namespace Sys2Proof.Machine

/-! ### Logic -/

/-- The A combined with the source's byte is the one from before the read, which leaves A. -/
theorem logicA_eq (op : Byte → Byte → Byte) (src : Source) (s : State) :
    logicA op src s = loadA (op s.a (readSource src s).1) (readSource src s).2 := by
  unfold logicA
  dsimp only
  rw [(readSource_onlyDevices src s).a]

/-- The rows of a logic instruction: encoding, one read of the source, and `op` of A and the byte into A. -/
theorem ReadsAs.combines {forms : List ReadForm} {op : Byte → Byte → Byte} (h : ReadsAs forms (logicA op)) :
    ∀ f ∈ forms, ∀ b1 b2, f.Encoded b1 b2 ∧ ∀ s : State,
      let got := readSource (f.source b1 b2) s
      ∃ p', FlagsAfter got.2.p p' (zn (op s.a got.1)) ∧
        exec (f.instr b1 b2) s = .next { got.2 with a := op s.a got.1, p := p' } := by
  intro f hf b1 b2
  obtain ⟨hencoded, hexec⟩ := h f hf b1 b2
  exact ⟨hencoded, fun s => exec_loadA ((hexec s).trans (congrArg Host.Outcome.next (logicA_eq ..)))⟩

/-- Settles O27: each table combines A with the byte read, by its operation. -/
theorem logicInstructions : Obligations.LogicInstructions := by
  unfold Obligations.LogicInstructions
  obtain ⟨-, -, -, -, -, -, hand, hora, heor⟩ := readsAs_rows
  exact ⟨hand.combines, hora.combines, heor.combines⟩

/-! ### Shifts and rotates -/

/-- The read of a memory operand leaves the carry. -/
theorem operandRead_carry (o : Operand) (s : State) :
    getFlag .c (busRead (resolve o s).ea (resolve o s).state).2.p = getFlag .c s.p :=
  (readSource_onlyDevices (.mem o) s).flags .c (by decide)

/-- The rows of a shift or rotate of memory: encoding, one read, C, Z and N, and one write of the result, in which a rotate's opened bit is
the carry from before the read. -/
theorem ActsAs.shifts {forms : List MemForm} {k : Shift} (h : ActsAs forms (shiftMemory k)) :
    ∀ f ∈ forms, ∀ b1 b2, f.Encoded b1 b2 ∧ ∀ s : State,
      let r := resolve (f.operand b1 b2) s
      let got := busRead r.ea r.state
      ∃ v : Byte, v.toNat = movedBits k got.1.toNat (getFlag .c s.p).toNat ∧
        ∃ p', FlagsAfter got.2.p p' ((.c, movedOut k got.1.toNat) :: zn v) ∧
          exec (f.instr b1 b2) s = .next (busWrite r.ea v (got.2.setP p')) := by
  intro f hf b1 b2
  obtain ⟨hencoded, hexec⟩ := h f hf b1 b2
  refine ⟨hencoded, fun s => ⟨_, ?_, _, flagsAfter_putShift .., hexec s⟩⟩
  rw [shiftResult_toNat, operandRead_carry]

/-- An instruction that shifts or rotates A leaves the result there and C, Z and N from it. -/
theorem exec_shiftA {i : Instr} {k : Shift} {s : State} (h : exec i s = .next (shiftA k s)) :
    ∃ v : Byte, v.toNat = movedBits k s.a.toNat (getFlag .c s.p).toNat ∧
      ∃ p', FlagsAfter s.p p' ((.c, movedOut k s.a.toNat) :: zn v) ∧ exec i s = .next { s with a := v, p := p' } :=
  ⟨_, shiftResult_toNat k s.a s.p, _, flagsAfter_putShift k s.a s.p, h⟩

/-- Settles O30: the memory tables by their kind of shift, the accumulator forms as the shift of A. -/
theorem shiftInstructions : Obligations.ShiftInstructions := by
  unfold Obligations.ShiftInstructions
  obtain ⟨-, -, -, -, -, -, -, -, -, hasl, hlsr, hrol, hror⟩ := actsAs_rows
  simp only [List.forall_mem_cons]
  refine ⟨⟨hasl.shifts, hlsr.shifts, hrol.shifts, hror.shifts, List.forall_mem_nil _⟩, ⟨?_, ?_, ?_, ?_, List.forall_mem_nil _⟩⟩
  all_goals exact ⟨encodedAs_intro rfl rfl rfl rfl rfl, fun _ => exec_shiftA rfl⟩

/-! ### Bit tests -/

/-- The A that BIT tests is the one from before the read, which leaves A. -/
theorem bitTest_eq (o : Operand) (s : State) :
    bitTest o s =
      let r := resolve o s
      let got := busRead r.ea r.state
      got.2.setP (putBit s.a got.1 got.2.p) := by
  unfold bitTest
  dsimp only
  rw [(readSource_onlyDevices (.mem o) s).a]
  rfl

/-- Settles O28: the rows of BIT are one read and the flags of the test; the three slots decode by evaluation. (`bitTest` is the model's
operation.) -/
theorem bitTestInstruction : Obligations.BitTest := by
  unfold Obligations.BitTest
  obtain ⟨-, -, -, -, -, -, hbit, -⟩ := actsAs_rows
  refine ⟨fun f hf b1 b2 => ?_, rfl, rfl, rfl⟩
  obtain ⟨hencoded, hexec⟩ := hbit f hf b1 b2
  exact ⟨hencoded, fun s => ⟨_, flagsAfter_putBit .., (hexec s).trans (congrArg Host.Outcome.next (bitTest_eq ..))⟩⟩

/-- The rows of a test that then stores `change v a` for the byte `v` and A: encoding, one read, Z alone, one write. -/
theorem ActsAs.testsAndStores {forms : List MemForm} {change : Byte → Byte → Byte}
    (h : ActsAs forms fun o s => modifyMemory (fun v _ => change v s.a) (putTest s.a) (fun _ p => p) o s) :
    ∀ f ∈ forms, ∀ b1 b2, f.Encoded b1 b2 ∧ ∀ s : State,
      let r := resolve (f.operand b1 b2) s
      let got := busRead r.ea r.state
      ∃ p', FlagsAfter got.2.p p' [(.z, decide ((s.a &&& got.1).toNat = 0))] ∧
        exec (f.instr b1 b2) s = .next (busWrite r.ea (change got.1 s.a) (got.2.setP p')) := by
  intro f hf b1 b2
  obtain ⟨hencoded, hexec⟩ := h f hf b1 b2
  exact ⟨hencoded, fun s => ⟨_, flagsAfter_putTest .., hexec s⟩⟩

/-- Settles O29: TRB stores the byte without A's bits, TSB with them. -/
theorem testAndChangeBits : Obligations.TestAndChangeBits := by
  unfold Obligations.TestAndChangeBits
  obtain ⟨-, -, -, -, -, -, -, htrb, htsb, -⟩ := actsAs_rows
  exact ⟨ActsAs.testsAndStores (change := fun v a => v &&& ~~~a) htrb, ActsAs.testsAndStores (change := fun v a => v ||| a) htsb⟩

end Sys2Proof.Machine

/-! PROOFS. The status word, flag and system instructions: PHP and PLP as one push and one pull, a flag instruction as one flag written, BRK and
RTI as the entry and the return, and the IRQ gate after CLI and SEI. -/

namespace Sys2Proof.Machine

/-! ### Stack, flags, software interrupt -/

theorem pullStatus_eq (s : State) : pullStatus s =
    let got := busRead (stackSlot s.sp 1) s
    (got.2.setSp (s.sp + 1)).setP (statusFrom got.1) := by
  unfold pullStatus
  rw [pull_eq]

/-- Settles O35: one push and one pull, of which bit 5 is forced. -/
theorem statusPushAndPull : Obligations.StatusPushAndPull := by
  unfold Obligations.StatusPushAndPull
  refine ⟨encodedAs_intro rfl rfl rfl rfl rfl, encodedAs_intro rfl rfl rfl rfl rfl, fun s => ⟨?_, ?_⟩⟩
  · exact congrArg Host.Outcome.next (push_eq (s.p ||| 0x30) s)
  · exact ⟨_, fun f => getFlag_statusFrom f _, congrArg Host.Outcome.next (pullStatus_eq s)⟩

/-- Every flag instruction: its encoding, and its meaning as one flag written (R247, R253 to R258). -/
theorem flagRows_rows : ∀ row ∈ flagRows, EncodedAs row.1 [row.2.1] .imp 1 2 ∧
    ∀ s, exec row.1 s = .next (writeFlag row.2.2.1 row.2.2.2 s) := by
  simp only [flagRows, List.forall_mem_cons]
  repeat refine And.intro ⟨encodedAs_intro rfl rfl rfl rfl rfl, fun _ => rfl⟩ ?_
  exact List.forall_mem_nil _

/-- Settles O36: row by row one flag written; NOP answers the state it is given. -/
theorem flagInstructionsAndNop : Obligations.FlagInstructionsAndNop := by
  unfold Obligations.FlagInstructionsAndNop
  refine ⟨fun row hrow => ?_, encodedAs_intro rfl rfl rfl rfl rfl, fun s => ⟨rfl, cyclesOf_implied rfl s⟩⟩
  obtain ⟨hencoded, hexec⟩ := flagRows_rows row hrow
  exact ⟨hencoded, fun s => ⟨_, flagsAfter_putFlag row.2.2.1 row.2.2.2 s.p, hexec s⟩⟩

/-- Settles O37: the interrupt entry with the break flag, from the address after the padding byte. (`softwareInterrupt` is the model's
operation.) -/
theorem softwareInterruptInstruction : Obligations.SoftwareInterrupt := by
  unfold Obligations.SoftwareInterrupt
  exact ⟨encodedAs_intro rfl rfl rfl rfl rfl, fun s => ⟨_, softwareInterrupt_enters s, rfl⟩⟩

/-- Settles O38: the return as three Bus reads, the first of them the status word with bit 5 forced. (`returnFromInterrupt` is the
model's operation.) -/
theorem returnFromInterruptInstruction : Obligations.ReturnFromInterrupt := by
  unfold Obligations.ReturnFromInterrupt
  exact ⟨encodedAs_intro rfl rfl rfl rfl rfl, fun s =>
    ⟨_, fun f => getFlag_statusFrom f _, congrArg Host.Outcome.next (returnFromInterrupt_eq s)⟩⟩

/-! ### The gate at the instruction's own boundary -/

/-- A pending IRQ that the instruction leaves unmasked is served at its boundary (R278, R279). -/
theorem boundary_serves_unmasked_irq (cycles len : Nat) {s : State} (h : s.irqPending = true) (hi : getFlag .i s.p = false) :
    boundary cycles len s = nmiTest (serviceIrq (countDown len (updateTimers cycles s))) := by
  have hpending : (countDown len (updateTimers cycles s)).irqPending = true := by
    rw [countDown_irqPending]
    exact updateTimers_irqPending cycles h
  unfold boundary
  rw [irqGate_open hpending ((beforeGate_interruptFlag ..).trans hi)]

/-- With I set the boundary has no IRQ service (R279). -/
theorem boundary_masked (cycles len : Nat) {s : State} (hi : getFlag .i s.p = true) :
    boundary cycles len s = nmiTest (countDown len (updateTimers cycles s)) := by
  unfold boundary
  rw [irqGate_masked ((beforeGate_interruptFlag ..).trans hi)]

/-- Settles O48: the flag the instruction wrote is the one the gate reads. -/
theorem irqGateAtOwnBoundary : Obligations.IrqGateAtOwnBoundary := by
  unfold Obligations.IrqGateAtOwnBoundary
  intro s cycles len h
  have hcli : getFlag .i (writeFlag .i false s).p = false := getFlag_putFlag_same ..
  have hsei : getFlag .i (writeFlag .i true s).p = true := getFlag_putFlag_same ..
  refine ⟨⟨writeFlag .i false s, rfl, ?_⟩, ⟨writeFlag .i true s, rfl, ?_, ?_⟩⟩
  · exact boundary_serves_unmasked_irq cycles len h hcli
  · exact boundary_masked cycles len hsei
  · exact boundary_keeps_masked_irq cycles len h hsei

end Sys2Proof.Machine

/-! PROOFS. NMI service and the two entries of one boundary over plain RAM, and the timer's request as a level: a flag set and enabled
requests in every update, and the boundary latches what the timers request. -/

namespace Sys2Proof.Machine

/-! ### NMI service, and IRQ and NMI at one boundary -/

/-- Settles O47: the interrupt entry through the NMI vector, and the latch cleared. -/
theorem nmiService : Obligations.NmiService := by
  unfold Obligations.NmiService
  exact fun s => ⟨_, enterInterrupt_enters false nmiVector s, rfl⟩

/-- Writing a flag with the value it was just given changes nothing. -/
@[simp] theorem putFlag_putFlag_same (f : Flag) (v : Bool) (p : Byte) : putFlag f v (putFlag f v p) = putFlag f v p :=
  status_ext fun g => by simp only [getFlag_putFlag]; split <;> rfl

/-- IRQ service over plain RAM and an unmatched vector: the whole next state (R280). -/
theorem serviceIrq_plain {s : State} (h0 : PlainRam s (stackSlot s.sp 0)) (h1 : PlainRam s (stackSlot s.sp 255))
    (h2 : PlainRam s (stackSlot s.sp 254)) (v0 : Unmatched s 0xFFFE) (v1 : Unmatched s 0xFFFF) :
    serviceIrq s = { s with
      mem := entryMem s.p s, p := putFlag .i true s.p, sp := s.sp - 3, pc := addrOf (s.memByte 0xFFFE) (s.memByte 0xFFFF)
      irqPending := false } :=
  congrArg (State.setIrqPending false)
    (enterInterrupt_plain false (vector := irqVector) h0 h1 h2 v0 v1 (by decide) (by decide) _ rfl)

/-- NMI service over plain RAM and an unmatched vector: the whole next state (R281). -/
theorem serviceNmi_plain {s : State} (h0 : PlainRam s (stackSlot s.sp 0)) (h1 : PlainRam s (stackSlot s.sp 255))
    (h2 : PlainRam s (stackSlot s.sp 254)) (v0 : Unmatched s 0xFFFA) (v1 : Unmatched s 0xFFFB) :
    serviceNmi s = { s with
      mem := entryMem s.p s, p := putFlag .i true s.p, sp := s.sp - 3, pc := addrOf (s.memByte 0xFFFA) (s.memByte 0xFFFB)
      nmiPending := false } :=
  congrArg (State.setNmiPending false)
    (enterInterrupt_plain false (vector := nmiVector) h0 h1 h2 v0 v1 (by decide) (by decide) _ rfl)

/-- An interrupt entry's memory has every byte outside the stack page as it was. -/
theorem entryMem_read_of_page (image : Byte) (s : State) {k : Addr} (h : k.toNat / 256 ≠ 1) :
    (entryMem image s).read k.toNat = s.memByte k := by
  obtain ⟨-, -, -, hother⟩ := entryMem_read image s
  exact hother k (stackSlot_ne_of_page _ _ h) (stackSlot_ne_of_page _ _ h) (stackSlot_ne_of_page _ _ h)

/-- The three slots of an entry made three bytes further down. -/
theorem stackSlots_after_entry (sp : Byte) : stackSlot (sp - 3) 0 = stackSlot sp 253 ∧ stackSlot (sp - 3) 255 = stackSlot sp 252 ∧
    stackSlot (sp - 3) 254 = stackSlot sp 251 :=
  ⟨stackSlot_sub sp (by decide) (by decide), stackSlot_sub sp (by decide) (by decide), stackSlot_sub sp (by decide) (by decide)⟩

/-- Two entries, `t` the state that the first left: the upper frame is the first's, the lower one the second's. -/
theorem entryMem_read_twice (image image' : Byte) {s t : State} (hsp : t.sp = s.sp - 3) (hmem : t.mem = entryMem image s) :
    let byte := fun k : Addr => (entryMem image' t).read k.toNat
    (∀ k, (∀ j ∈ [0, 255, 254, 253, 252, 251], k ≠ stackSlot s.sp j) → byte k = s.memByte k) ∧
    byte (stackSlot s.sp 0) = highByte s.pc ∧ byte (stackSlot s.sp 255) = lowByte s.pc ∧ byte (stackSlot s.sp 254) = image ∧
    byte (stackSlot s.sp 253) = highByte t.pc ∧ byte (stackSlot s.sp 252) = lowByte t.pc ∧ byte (stackSlot s.sp 251) = image' := by
  obtain ⟨hlow0, hlow1, hlow2⟩ := stackSlots_after_entry s.sp
  obtain ⟨ht0, ht1, ht2, htOther⟩ := entryMem_read image' t
  obtain ⟨hs0, hs1, hs2, hsOther⟩ := entryMem_read image s
  rw [hsp, hlow0] at ht0
  rw [hsp, hlow1] at ht1
  rw [hsp, hlow2] at ht2
  have habove : ∀ k, (∀ j ∈ [253, 252, 251], k ≠ stackSlot s.sp j) →
      (entryMem image' t).read k.toNat = (entryMem image s).read k.toNat := by
    intro k hk
    rw [htOther k (by rw [hsp, hlow0]; exact hk 253 (by simp)) (by rw [hsp, hlow1]; exact hk 252 (by simp))
      (by rw [hsp, hlow2]; exact hk 251 (by simp)), ← hmem]
    rfl
  have hoffsets : ∀ i ∈ [0, 255, 254], ∀ j ∈ [253, 252, 251], i < 256 ∧ j < 256 ∧ i ≠ j := by decide
  have hframe : ∀ i ∈ [0, 255, 254], ∀ j ∈ [253, 252, 251], stackSlot s.sp i ≠ stackSlot s.sp j := by
    intro i hi j hj
    obtain ⟨hi', hj', hne⟩ := hoffsets i hi j hj
    exact stackSlot_ne s.sp hi' hj' hne
  refine ⟨fun k hk => ?_, (habove _ (hframe 0 (by simp))).trans hs0, (habove _ (hframe 255 (by simp))).trans hs1,
    (habove _ (hframe 254 (by simp))).trans hs2, ht0, ht1, ht2⟩
  exact (habove k fun j hj => hk j (List.mem_append_right [0, 255, 254] hj)).trans
    (hsOther k (hk 0 (by simp)) (hk 255 (by simp)) (hk 254 (by simp)))

/-- NMI service right after IRQ service, `u` the state that the IRQ service leaves: the whole next state. -/
theorem serviceNmi_serviceIrq_plain {s u : State}
    (hram : ∀ k : Nat, k ∈ [0, 255, 254, 253, 252, 251] → PlainRam s (stackSlot s.sp k))
    (hvec : ∀ v ∈ [0xFFFA#16, 0xFFFB#16, 0xFFFE#16, 0xFFFF#16], Unmatched s v)
    (hu : u = { s with
      mem := entryMem s.p s, p := putFlag .i true s.p, sp := s.sp - 3, pc := addrOf (s.memByte 0xFFFE) (s.memByte 0xFFFF)
      irqPending := false }) :
    serviceNmi (serviceIrq s) = { s with
      mem := entryMem (putFlag .i true s.p) u, p := putFlag .i true s.p, sp := s.sp - 6
      pc := addrOf (s.memByte 0xFFFA) (s.memByte 0xFFFB), irqPending := false, nmiPending := false } := by
  obtain ⟨hlow0, hlow1, hlow2⟩ := stackSlots_after_entry s.sp
  have hirq : serviceIrq s = u :=
    (serviceIrq_plain (hram 0 (by simp)) (hram 255 (by simp)) (hram 254 (by simp)) (hvec _ (by simp)) (hvec _ (by simp))).trans hu.symm
  have hplain : ∀ {k : Addr}, PlainRam s k → PlainRam u k := by rw [hu]; exact id
  have hunmatched : ∀ {v : Addr}, Unmatched s v → Unmatched u v := by rw [hu]; exact id
  have hvector : ∀ {v : Addr}, v.toNat / 256 ≠ 1 → u.memByte v = s.memByte v := by
    rw [hu]; exact entryMem_read_of_page s.p s
  have hsp : u.sp = s.sp - 3 := by rw [hu]
  have hp : u.p = putFlag .i true s.p := by rw [hu]
  have hsix : s.sp - 3 - 3 = s.sp - 6 := by bv_omega
  rw [hirq, serviceNmi_plain (by rw [hsp, hlow0]; exact hplain (hram 253 (by simp)))
    (by rw [hsp, hlow1]; exact hplain (hram 252 (by simp))) (by rw [hsp, hlow2]; exact hplain (hram 251 (by simp)))
    (hunmatched (hvec _ (by simp))) (hunmatched (hvec _ (by simp))), hvector (by decide), hvector (by decide), hp, hsp, hsix,
    putFlag_putFlag_same, hu]

/-- Settles O49: the NMI's entry on the state the IRQ's entry leaves, each over plain RAM. -/
theorem irqThenNmiAtOneBoundary : Obligations.IrqThenNmiAtOneBoundary := by
  unfold Obligations.IrqThenNmiAtOneBoundary
  intro s hirq hnmi hi hram hvec
  dsimp only
  have hnmi' : (serviceIrq s).nmiPending = true := irqGate_open hirq hi ▸ irqGate_nmiPending hnmi
  rw [irqGate_open hirq hi, nmiTest_pending hnmi', serviceNmi_serviceIrq_plain hram hvec rfl]
  exact ⟨rfl, rfl, rfl, rfl, ⟨_, flagsAfter_putFlag .i true s.p, rfl⟩, entryMem_read_twice _ _ rfl rfl⟩

/-! ### The timer's request -/

theorem lowSeven_getLsbD (k : Nat) : (0x7F : Byte).getLsbD k = decide (k < 7) := by
  have h : Nat.testBit 0x7F k = decide (k < 7) := Nat.testBit_two_pow_sub_one 7 k
  refine (BitVec.getLsbD_ofNat ..).trans ?_
  rw [h, ← Bool.decide_and, decide_eq_decide]
  omega

/-- A flag set and enabled is a bit below 7 set in both registers (R322, R323). -/
theorem enabledFlag_iff {ier ifr : Byte} :
    ier &&& ifr &&& 0x7F ≠ 0 ↔ ∃ k, k < 7 ∧ ier.getLsbD k = true ∧ ifr.getLsbD k = true := by
  have hbit : ∀ k, (ier &&& ifr &&& 0x7F).getLsbD k = true ↔ k < 7 ∧ ier.getLsbD k = true ∧ ifr.getLsbD k = true := by
    intro k
    rw [BitVec.getLsbD_and, BitVec.getLsbD_and, lowSeven_getLsbD, Bool.and_eq_true, Bool.and_eq_true, decide_eq_true_iff, and_comm]
  constructor
  · intro h
    by_contra hnone
    refine h (BitVec.eq_of_getLsbD_eq fun k _ => ?_)
    exact (Bool.eq_false_iff.2 fun hk => hnone ⟨k, (hbit k).1 hk⟩).trans BitVec.getLsbD_zero.symm
  · rintro ⟨k, hk⟩ hzero
    have h := (hbit k).2 hk
    rw [hzero] at h
    exact Bool.false_ne_true (BitVec.getLsbD_zero.symm.trans h)

/-- R320 step 4 as one mask. -/
theorem Timer.requests_eq (t : Timer) : t.requests = decide (t.ier &&& t.ifr &&& 0x7F ≠ 0) := by
  have hmask : (t.ier &&& 0x7F) &&& (t.ifr &&& 0x7F) = t.ier &&& t.ifr &&& 0x7F := by ac_rfl
  unfold Timer.requests
  rw [hmask]
  exact decide_not.symm

/-- Step 4 is decided after the two timers are advanced (R320). -/
theorem Timer.update_fst (e : Nat) (t : Timer) : (t.update e).1 = ((t.updateTimer1 e).updateTimer2 e).requests := by
  unfold Timer.update
  dsimp only
  split
  · next h => exact h.symm
  · next h => exact (Bool.eq_false_iff.2 h).symm

/-- IFR bit 7 after an update is the request (R322). -/
theorem Timer.update_summary (e : Nat) (t : Timer) : (t.update e).2.ifr.getLsbD 7 = (t.update e).1 := by
  unfold Timer.update
  dsimp only
  split <;> simp

/-- The request, read off the registers the update leaves (R320, R324). -/
theorem Timer.update_requests (e : Nat) (t : Timer) :
    (t.update e).1 = decide ((t.update e).2.ier &&& (t.update e).2.ifr &&& 0x7F ≠ 0) := by
  obtain ⟨flags, hu, hflags⟩ := Timer.update_eq e t
  rw [Timer.update_fst, Timer.requests_eq, hu, decide_eq_decide, enabledFlag_iff, enabledFlag_iff]
  refine exists_congr fun k => and_congr_right fun hk => ?_
  rw [hflags k (by omega)]

theorem Timer.updateTimer1_keeps_flag {e k : Nat} {t : Timer} (h : t.ifr.getLsbD k = true) :
    (t.updateTimer1 e).ifr.getLsbD k = true := by
  cases hnext : timer1Next (t.acr.getLsbD 6) t.counter1 t.latch1 e with
  | mk n timeout =>
    rw [Timer.updateTimer1_eq hnext]
    cases timeout
    · exact h
    · exact (BitVec.getLsbD_or ..).trans (by rw [h, Bool.true_or])

theorem Timer.updateTimer2_keeps_flag {e k : Nat} {t : Timer} (h : t.ifr.getLsbD k = true) :
    (t.updateTimer2 e).ifr.getLsbD k = true := by
  unfold Timer.updateTimer2
  dsimp only
  split
  · split
    · rw [BitVec.getLsbD_or, h, Bool.true_or]
    · exact h
  · exact h

/-- An update clears no flag but the summary bit. -/
theorem Timer.update_keeps_flag {e k : Nat} {t : Timer} (hk : k ≠ 7) (h : t.ifr.getLsbD k = true) :
    (t.update e).2.ifr.getLsbD k = true := by
  obtain ⟨flags, hu, hflags⟩ := Timer.update_eq e t
  rw [hu]
  exact (hflags k hk).trans (Timer.updateTimer2_keeps_flag (Timer.updateTimer1_keeps_flag h))

/-- A flag that was set and enabled before an update requests after it (R324). -/
theorem Timer.update_keeps_requesting {e : Nat} {t : Timer} (h : t.ier &&& t.ifr &&& 0x7F ≠ 0) : (t.update e).1 = true := by
  obtain ⟨k, hk, hier, hifr⟩ := enabledFlag_iff.1 h
  rw [Timer.update_requests, decide_eq_true_iff, enabledFlag_iff, update_ier]
  exact ⟨k, hk, hier, Timer.update_keeps_flag (by omega) hifr⟩

/-- Settles O56: one update, and the boundary with a requesting timer or with none. -/
theorem timerRequestIsALevel : Obligations.TimerRequestIsALevel := by
  unfold Obligations.TimerRequestIsALevel
  refine ⟨fun t e => ⟨Timer.update_requests e t, Timer.update_summary e t, update_ier e t, Timer.update_keeps_requesting⟩,
    fun s cycles => ⟨fun h => ?_, updateTimers_idle⟩⟩
  exact ⟨_, flagsAfter_putFlag .b false s.p, updateTimers_requesting h⟩

end Sys2Proof.Machine

/-! PROOFS. One update of each timer, its register accesses and its ports: timer 1 by its next counter and timeout, timer 2
by ACR bit 5, a plain store as one `put`, a latch bit by bit. -/

namespace Sys2Proof.Machine

/-! ### One update of timer 1 and timer 2 -/

/-- What an update makes of timer 1 is its own step's doing: timer 2 and the summary touch none of it. -/
theorem Timer.update_timer1 (e : Nat) (t : Timer) :
    (t.update e).2.counter1 = (t.updateTimer1 e).counter1 ∧ (t.update e).2.latch1 = (t.updateTimer1 e).latch1 ∧
    (t.update e).2.ifr.getLsbD 6 = (t.updateTimer1 e).ifr.getLsbD 6 ∧
    (t.update e).2.outLatchA = (t.updateTimer1 e).outLatchA ∧ (t.update e).2.outLatchB = (t.updateTimer1 e).outLatchB := by
  obtain ⟨flags, hu, hflags⟩ := Timer.update_eq e t
  obtain ⟨lo, hi, flags2, hu2, hflags2⟩ := Timer.updateTimer2_eq e (t.updateTimer1 e)
  rw [hu2] at hu hflags
  rw [hu]
  exact ⟨rfl, rfl, (hflags 6 (by decide)).trans (hflags2 6 (by decide)), rfl, rfl⟩

/-- Timer 1 and the port latches after an update, from the next counter and the timeout of R320 step 1. -/
theorem Timer.update_of_timer1Next {e n : Nat} {t : Timer} {timeout : Bool}
    (hnext : timer1Next (t.acr.getLsbD 6) t.counter1 t.latch1 e = (n, timeout)) (hn : n < 65536) :
    (t.update e).2.counter1 = n ∧ (t.update e).2.latch1 = t.latch1 ∧
    (t.update e).2.ifr.getLsbD 6 = (t.ifr.getLsbD 6 || timeout) ∧ (t.update e).2.outLatchA = t.outLatchA ∧
    (t.update e).2.outLatchB = if timeout = true then t.outputLine.outLatchB else t.outLatchB := by
  obtain ⟨hcounter, hlatch, hflag, hA, hB⟩ := Timer.update_timer1 e t
  rw [Timer.updateTimer1_eq hnext] at hcounter hlatch hflag hA hB
  refine ⟨hcounter.trans (Timer.counter1_putCounter1 hn t), hlatch, hflag.trans ?_, hA, hB⟩
  cases timeout <;> simp

/-- Timer 1's step leaves timer 2, its mode and its flag. -/
theorem Timer.updateTimer1_timer2 (e : Nat) (t : Timer) :
    (t.updateTimer1 e).acr = t.acr ∧ (t.updateTimer1 e).counter2 = t.counter2 ∧
    (t.updateTimer1 e).ifr.getLsbD 5 = t.ifr.getLsbD 5 := by
  cases hnext : timer1Next (t.acr.getLsbD 6) t.counter1 t.latch1 e with
  | mk n timeout =>
    rw [Timer.updateTimer1_eq hnext]
    refine ⟨rfl, rfl, ?_⟩
    cases timeout <;> simp

/-- R320 step 3 with ACR bit 5 set. -/
theorem Timer.updateTimer2_counting {e : Nat} {t : Timer} (h : t.acr.getLsbD 5 = true) :
    ((t.updateTimer2 e).counter2 : Int) = ((t.counter2 : Int) - e) % 65536 ∧
    (t.updateTimer2 e).ifr.getLsbD 5 = (t.ifr.getLsbD 5 || decide (t.counter2 < e)) := by
  have hlt := t.counter2_lt
  unfold Timer.updateTimer2
  rw [if_pos h]
  dsimp only
  by_cases hwrap : (t.counter2 : Int) - e < 0
  · rw [if_pos hwrap]
    have hcounter : (t.putCounter2 (((t.counter2 : Int) - e) % 65536).toNat).counter2 = (((t.counter2 : Int) - e) % 65536).toNat :=
      Timer.counter2_putCounter2 (by omega) t
    have hlate : t.counter2 < e := by omega
    exact ⟨(congrArg Nat.cast hcounter).trans (Int.toNat_of_nonneg (by omega)), by simp [hlate]⟩
  · rw [if_neg hwrap]
    have hcounter : (t.putCounter2 ((t.counter2 : Int) - e).toNat).counter2 = ((t.counter2 : Int) - e).toNat :=
      Timer.counter2_putCounter2 (by omega) t
    have hearly : ¬ t.counter2 < e := by omega
    exact ⟨by rw [hcounter]; omega, by simp [hearly, Timer.putCounter2]⟩

/-- R325: with ACR bit 5 clear timer 2 stands still. -/
theorem Timer.updateTimer2_stopped {e : Nat} {t : Timer} (h : t.acr.getLsbD 5 = false) : t.updateTimer2 e = t :=
  if_neg (Bool.eq_false_iff.1 h)

/-- What an update makes of timer 2 is its own step's doing. -/
theorem Timer.update_timer2 (e : Nat) (t : Timer) :
    (t.update e).2.counter2 = ((t.updateTimer1 e).updateTimer2 e).counter2 ∧
    (t.update e).2.ifr.getLsbD 5 = ((t.updateTimer1 e).updateTimer2 e).ifr.getLsbD 5 := by
  obtain ⟨flags, hu, hflags⟩ := Timer.update_eq e t
  rw [hu]
  exact ⟨rfl, hflags 5 (by decide)⟩

/-- Settles O53: timer 1's next counter before it passes below zero, and past it. -/
theorem timer1Continuous : Obligations.Timer1Continuous := by
  unfold Obligations.Timer1Continuous
  intro t e hmode
  have hlt := t.counter1_lt
  dsimp only
  by_cases h : e ≤ t.counter1
  · have hnext : timer1Next (t.acr.getLsbD 6) t.counter1 t.latch1 e = (t.counter1 - e, false) := by
      rw [hmode, timer1Next_running h]
    obtain ⟨hcounter, hlatch, hflag, hA, hB⟩ := Timer.update_of_timer1Next hnext (by omega)
    exact ⟨fun _ => ⟨hcounter, hflag.trans (Bool.or_false _), hB⟩, fun hlate => absurd h (Nat.not_le_of_lt hlate), hlatch, hA⟩
  · obtain ⟨n, hnext, hle, hmod⟩ := timer1Next_reloads (l := t.latch1) (Nat.lt_of_not_le h) hlt
    rw [← hmode] at hnext
    obtain ⟨hcounter, hlatch, hflag, hA, hB⟩ := Timer.update_of_timer1Next hnext (hle.trans_lt t.latch1_lt)
    refine ⟨fun hearly => absurd hearly h, fun _ => ⟨hcounter ▸ hmod, hcounter ▸ hle, ?_, ?_⟩, hlatch, hA⟩
    · rw [hflag, hmode, Bool.or_true]
    · rw [hB, if_pos hmode, Timer.outputLine_eq, if_pos hmode]

/-- Settles O54: timer 1's next counter in one-shot mode, and the line forced high at its timeout. -/
theorem timer1OneShot : Obligations.Timer1OneShot := by
  unfold Obligations.Timer1OneShot
  intro t e hmode
  have hlt := t.counter1_lt
  have hnext := timer1Next_oneShot t.counter1 t.latch1 e
  rw [← hmode] at hnext
  obtain ⟨hcounter, hlatch, hflag, -, hB⟩ := Timer.update_of_timer1Next hnext (by omega)
  refine ⟨hcounter, hlatch, hflag, hB.trans ?_⟩
  rw [Timer.outputLine_eq, hmode]
  simp only [decide_eq_true_eq, Bool.false_eq_true, if_false, ← ite_and, and_assoc]

/-- Settles O55: timer 2's own step in either mode, after a timer 1 step that leaves it. -/
theorem timer2CountsAndWraps : Obligations.Timer2CountsAndWraps := by
  unfold Obligations.Timer2CountsAndWraps
  intro t e
  obtain ⟨hcounter, hflag⟩ := Timer.update_timer2 e t
  obtain ⟨hacr, hcounter1, hflag1⟩ := Timer.updateTimer1_timer2 e t
  dsimp only
  rw [hcounter, hflag, ← hacr, ← hcounter1, ← hflag1]
  refine ⟨Timer.updateTimer2_counting, fun h => ?_⟩
  rw [Timer.updateTimer2_stopped h]
  exact ⟨rfl, rfl⟩

/-! ### Register accesses -/

/-- A register after one is put. -/
theorem Timer.reg_put (r k : TimerReg) (v : Byte) (t : Timer) : (t.put r v).reg k = if k = r then v else t.reg k := by
  cases r <;> cases k <;> rfl

theorem Timer.put_latches (r : TimerReg) (v : Byte) (t : Timer) :
    (t.put r v).outLatchA = t.outLatchA ∧ (t.put r v).outLatchB = t.outLatchB ∧
    (t.put r v).inLatchA = t.inLatchA ∧ (t.put r v).inLatchB = t.inLatchB := by
  cases r <;> exact ⟨rfl, rfl, rfl, rfl⟩

theorem Timer.reg_clearFlags {k : TimerReg} (h : k ≠ .ifr) (mask : Byte) (t : Timer) : (t.clearFlags mask).reg k = t.reg k := by
  cases k with
  | ifr => exact absurd rfl h
  | _ => rfl

/-- A write of a register without a named side effect is a plain store after the flags are cleared (R335, R336). -/
theorem Timer.writeRegister_plain {q : Params} {r : TimerReg} {v : Byte} {t : Timer}
    (h : r ∈ [TimerReg.ddrb, .ddra, .t1cl, .t1ll, .t1lh, .t2cl, .t2ch, .sr, .acr, .pcr, .ifr]) :
    t.writeRegister q r v = (t.clearFlags (writeClears q r)).put r v := by
  fin_cases h <;> rfl

/-- Settles O57: the two named side effects by definition and bit by bit, the plain stores as one `put`. -/
theorem timerRegisterAccess : Obligations.TimerRegisterAccess := by
  unfold Obligations.TimerRegisterAccess
  intro q t v
  refine ⟨fun r => rfl, ⟨rfl, rfl⟩,
    ⟨ierAfterWrite t.ier v, rfl, fun _ => ierAfterWrite_getLsbD t.ier v, ierAfterWrite_bit7 t.ier v⟩, fun r hr => ?_⟩
  rw [Timer.writeRegister_plain hr]
  refine ⟨(Timer.reg_put ..).trans (if_pos rfl), fun k hkr hk => ?_, fun hifr => ?_, Timer.put_latches r v _⟩
  · exact (Timer.reg_put ..).trans ((if_neg hkr).trans (Timer.reg_clearFlags hk _ t))
  · exact (Timer.reg_put r .ifr v _).trans (if_neg hifr.symm)

/-! ### The ports -/

theorem lowByte_getLsbD (w : Addr) (k : Nat) : (lowByte w).getLsbD k = (decide (k < 8) && w.getLsbD k) := by
  unfold lowByte
  rw [BitVec.getLsbD_extractLsb', Nat.zero_add]

/-- The input latch of R341, bit by bit. -/
theorem latchAfter_getLsbD (op : PortOp) (mask latch : BitVec 16) (k : Nat) (hk : k < 16) :
    (latchAfter op mask latch).getLsbD k = match op with
      | .orIn => latch.getLsbD k || mask.getLsbD k
      | .andOut => latch.getLsbD k && !mask.getLsbD k
      | .replace => mask.getLsbD k := by
  cases op with
  | orIn => exact BitVec.getLsbD_or ..
  | andOut => simp [latchAfter, hk]
  | replace => rfl

/-- The visible registers of R341, bit by bit. -/
theorem visible_getLsbD (d : Byte) (latch : BitVec 16) (k : Nat) (hk : k < 8) :
    (~~~d &&& lowByte latch).getLsbD k = (latch.getLsbD k && !d.getLsbD k) := by
  rw [BitVec.getLsbD_and, BitVec.getLsbD_not, lowByte_getLsbD, decide_eq_true hk, Bool.true_and, Bool.true_and, Bool.and_comm]

/-- Settles O58: each write as its record, and the bits of the latch and the registers it makes. -/
theorem timerPorts : Obligations.TimerPorts := by
  unfold Obligations.TimerPorts
  intro q t v
  refine ⟨⟨_, rfl, recomputedLatch_getLsbD v t.ddrb t.inLatchB⟩, ⟨_, rfl, rfl, recomputedLatch_getLsbD v t.ddra t.inLatchA⟩,
    fun op mask => ⟨?_, ?_⟩⟩
  · exact ⟨_, _, rfl, latchAfter_getLsbD op mask t.inLatchB, visible_getLsbD t.ddrb _⟩
  · exact ⟨_, _, rfl, latchAfter_getLsbD op mask t.inLatchA, visible_getLsbD t.ddra _⟩

end Sys2Proof.Machine
